-- ==== Sys2Proof/Word.lean ====
section
/-! DEFINITION. Word.lean: the words of the TC-640's messages and the small closed types that commands carry as operands. -/

namespace Sys2Proof

/-- One byte of a host-link frame or of a bay port message (R168, R186). -/
abbrev Byte := BitVec 8

/-- One of the six bays (R1). Bay number n of the manual is the value n − 1; `Bay.num` gives n back. -/
abbrev Bay := Fin 6

/-- A cargo class, 0 to 15 (glossary, R26). -/
abbrev Cargo := Fin 16

/-- An index into the step store, 0 to 255 (R39). -/
abbrev StepIx := Fin 256

/-- A residue grade, 0 to 7 (R95). -/
abbrev Grade := Fin 8

/-- The two host links (R168). -/
inductive LinkId where
  | office
  | panel
  deriving DecidableEq, Repr

/-- The seven shared utilities, in the order of their codes (R115, 11.2). -/
inductive UtilId where
  | hotWater
  | caustic
  | acid
  | steam
  | dryer
  | fillA
  | fillB
  deriving DecidableEq, Repr

/-- How a complete or broken host frame can be ended by an error, but for the gap, which is a row of its own (R169). -/
inductive FrameError where
  | badLength
  | badCrc
  | badKind
  | overrun
  deriving DecidableEq, Repr

/-- A step descriptor as its sixteen bytes stand in a STEP_WRITE body (11.5). -/
structure RawStep where
  kind : Byte
  flags : Byte
  utility : Byte
  amountHigh : Byte
  amountLow : Byte
  minTemp : Byte
  stall : Byte
  next : Byte
  firstRing : Byte
  lastRing : Byte
  firstSector : Byte
  lastSector : Byte
  order : Byte
  threshold : Byte
  ignored14 : Byte
  ignored15 : Byte
  deriving DecidableEq, Repr

end Sys2Proof
end

