-- ==== Sys2Proof/Config.lean ====
section
/-! DEFINITION. Config.lean: what the part fixes (device summary of 00_scope.md, IDENT of R180) and the one free value. -/

namespace Sys2Proof.Config

/-- Part code (R180). -/
def partCode : Nat := 0x0640
/-- Revision (R180). -/
def revision : Nat := 3
/-- Bays served (R180). -/
def bays : Nat := 6
/-- Compartment records in the pool (R2, R180). -/
def records : Nat := 32
/-- Step store entries (R39, R180). -/
def steps : Nat := 256
/-- Capacity of the certificate log (R143, R180). -/
def logCapacity : Nat := 24
/-- Fetches one program may make (R59). -/
def stepLimit : Nat := 64
/-- Capacity of the urgent notice queue (R160). -/
def urgentCapacity : Nat := 8
/-- Capacity of the routine notice queue (R160). -/
def routineCapacity : Nat := 32
/-- Where a two-byte count stops (R3, R61). -/
def max16 : Nat := 65535
/-- Where a one-byte count stops (R61, R147, R158, R169). -/
def max8 : Nat := 255
/-- Where a four-byte count stops (R116, R143, R155, R158). -/
def max32 : Nat := 4294967295

/-- FREE VALUE (log 10). A finished step's entry loses its pin before a drain or a starvation ends (R50), so STEP_WRITE may
have made it BLANK by the time the lane proceeds by its next field (R53, R57). A BLANK descriptor carries no next field
(R40) and the spec states no value for it: the n-th such proceed goes to `freeNext n`. -/
opaque freeNext : Nat → StepIx

end Sys2Proof.Config
end

