-- ==== Sys2Proof/Syntax.lean ====
section
/-! DEFINITION. Syntax.lean: the commands the block takes, one constructor per row of spec/opcode_table.json. -/

namespace Sys2Proof

/-- The commands. A request row is a complete, well-checked frame of that kind arriving on a host link: `l` the link, `tag` the
frame's tag, and the body's fields, each as wide as 11.4 lays it out and holding whatever value was sent. A count that only
says how many entries follow is the list's length (log 3). `BAY_REPORT` and the rows that a report brings about carry the
report's flow litres, fill litres and temperature; the rows that are judgements of the part itself name the lane or the utility judged
(log 4, log 5). -/
inductive Instr where
  -- Links, Modes and Marks
  | ident (l : LinkId) (tag : Byte)
  | setMode (l : LinkId) (tag : Byte) (mode : Byte)
  | restart (l : LinkId) (tag : Byte)
  | linkSetup (l : LinkId) (tag : Byte) (output showMasked : Byte) (masks : BitVec 16)
  | setClock (l : LinkId) (tag : Byte) (clock : BitVec 32)
  | setTiming (l : LinkId) (tag : Byte) (seat cold drain starve fillStall : Byte)
  | setAudit (l : LinkId) (tag : Byte) (period highWater : Byte)
  | setCertBase (l : LinkId) (tag : Byte) (number : BitVec 32)
  | markTest (l : LinkId) (tag : Byte) (mark : Byte)
  | markSet (l : LinkId) (tag : Byte) (mark : Byte)
  | markClear (l : LinkId) (tag : Byte) (mark : Byte)
  | markFlip (l : LinkId) (tag : Byte) (mark : Byte)
  -- the yard's tables
  | loadCarryover (l : LinkId) (tag : Byte) (row : Byte) (entries : Vector Byte 16)
  | readCarryover (l : LinkId) (tag : Byte) (row : Byte)
  | loadVerdict (l : LinkId) (tag : Byte) (first : Byte) (outcomes : List Byte)
  | readVerdict (l : LinkId) (tag : Byte) (first count : Byte)
  | stepWindow (l : LinkId) (tag : Byte) (first last : Byte)
  | stepWrite (l : LinkId) (tag : Byte) (steps : List RawStep)
  | stepRead (l : LinkId) (tag : Byte) (index count : Byte)
  | setUtility (l : LinkId) (tag : Byte) (utility capacity offline cargo : Byte)
  | utilityStatus (l : LinkId) (tag : Byte)
  -- visits and compartments
  | admitVisit (l : LinkId) (tag : Byte) (bay : Byte) (fleet : BitVec 24) (priority : Byte) (priors : List Byte)
  | depart (l : LinkId) (tag : Byte) (bay : Byte)
  | bayClear (l : LinkId) (tag : Byte) (bay : Byte)
  | assign (l : LinkId) (tag : Byte) (bay index head chainMode last programClass : Byte)
  | extend (l : LinkId) (tag : Byte) (bay index newLast : Byte)
  | abort (l : LinkId) (tag : Byte) (bay : Byte)
  | hold (l : LinkId) (tag : Byte) (bay : Byte)
  | resume (l : LinkId) (tag : Byte) (bay : Byte)
  | orderFill (l : LinkId) (tag : Byte) (bay index cargo : Byte) (target : BitVec 16)
  | cancelFill (l : LinkId) (tag : Byte) (bay index : Byte)
  | ruleReferral (l : LinkId) (tag : Byte) (bay index ruling cls : Byte)
  -- certificates
  | certRead (l : LinkId) (tag : Byte) (count : Byte)
  | certRetire (l : LinkId) (tag : Byte) (k : Byte)
  | auditRelease (l : LinkId) (tag : Byte)
  -- status
  | bayStatus (l : LinkId) (tag : Byte) (bay : Byte)
  | compartmentStatus (l : LinkId) (tag : Byte) (bay index : Byte)
  | mapRead (l : LinkId) (tag : Byte) (bay firstRing lastRing firstSector lastSector : Byte)
  | pendingRead (l : LinkId) (tag : Byte) (scope : Byte)
  | pendingClear (l : LinkId) (tag : Byte) (scope : Byte) (kinds : List Byte)
  -- the link unit
  | unknownKind (l : LinkId) (tag : Byte) (kind : Byte) (body : List Byte)
  | reject (l : LinkId) (error : FrameError)
  | gap (l : LinkId)
  | frameSent (l : LinkId)
  -- bay ports
  | bayReport (b : Bay) (flow fill temp : Byte)
  | seated (b : Bay) (index : Byte)
  | lifted (b : Bay)
  | drainClear (b : Bay)
  | highLevel (b : Bay)
  | probe (b : Bay) (grade : Byte)
  | bayPortTimeout (b : Bay)
  | bayOrdersSent (b : Bay)
  -- yard lines and the reset line
  | stopLineRise
  | stopLineFall
  | faultLineRise (u : UtilId)
  | faultLineFall (u : UtilId)
  | minuteTick
  | resetLineAssert
  | resetLineRelease (straps : Fin 8)
  -- judgements of the lanes and the arbiter
  | takeWashEntry (b : Bay)
  | takeFillEntry (b : Bay)
  | utilityGrant (u : UtilId)
  | seatTimeout (b : Bay) (flow fill temp : Byte)
  | noFlow (b : Bay) (flow fill temp : Byte)
  | coldSupply (b : Bay) (flow fill temp : Byte)
  | drainStuck (b : Bay) (flow fill temp : Byte)
  | underrun (b : Bay) (flow fill temp : Byte)
  | scanStall (b : Bay) (flow fill temp : Byte)
  | fillStall (b : Bay) (flow fill temp : Byte)
  | stepEnd (b : Bay) (flow fill temp : Byte)
  | fillComplete (b : Bay) (flow fill temp : Byte)
  -- bytes
  | frameByteReceived (l : LinkId) (byte : Byte)
  | portByteReceived (b : Bay) (byte : Byte)
  deriving DecidableEq, Repr

end Sys2Proof
end

