-- ==== Sys2Proof/WellFormed.lean ====
section
/-! DEFINITION. WellFormed.lean: which operand values a command of the table can carry, from the frame and port layouts. -/

namespace Sys2Proof

/-- The request kinds of 11.3. -/
def requestKinds : List Nat :=
  [0x01, 0x02, 0x03, 0x04, 0x05, 0x06, 0x07, 0x08, 0x09, 0x10, 0x11, 0x12, 0x13, 0x14, 0x15, 0x16, 0x18, 0x19,
   0x20, 0x21, 0x22, 0x23, 0x24, 0x25, 0x26, 0x27, 0x28, 0x29, 0x2A, 0x30, 0x31, 0x32, 0x38, 0x39, 0x3A, 0x3B, 0x3C]

/-- The longest body a frame can carry: L is at most 250 and counts kind and tag (R168). -/
def maxBody : Nat := 248

/-- A bay report's temperature is 0 to 99 (R66, R186). -/
def reportWf (temp : Byte) : Bool := temp.toNat ≤ 99

/-- The command can be sent: its lists fit in a frame's body (R168), an UNKNOWN_KIND frame is of no request kind and below
0x40 (R171), and a bay port message's value is in its range (R186), since the port drops one that is not. -/
def Instr.wf : Instr → Bool
  | .loadVerdict _ _ _ outcomes => outcomes.length + 2 ≤ maxBody
  | .stepWrite _ _ steps => 16 * steps.length + 1 ≤ maxBody
  | .admitVisit _ _ _ _ _ priors => priors.length + 6 ≤ maxBody
  | .pendingClear _ _ _ kinds => kinds.length + 2 ≤ maxBody
  | .unknownKind _ _ kind body =>
      kind.toNat < 0x40 && !requestKinds.contains kind.toNat && 1 ≤ body.length && body.length ≤ maxBody
  | .bayReport _ _ _ temp => reportWf temp
  | .seated _ index => 1 ≤ index.toNat && index.toNat ≤ 8
  | .probe _ grade => grade.toNat ≤ 7
  | .seatTimeout _ _ _ temp => reportWf temp
  | .noFlow _ _ _ temp => reportWf temp
  | .coldSupply _ _ _ temp => reportWf temp
  | .drainStuck _ _ _ temp => reportWf temp
  | .underrun _ _ _ temp => reportWf temp
  | .scanStall _ _ _ temp => reportWf temp
  | .fillStall _ _ _ temp => reportWf temp
  | .stepEnd _ _ _ temp => reportWf temp
  | .fillComplete _ _ _ temp => reportWf temp
  | .ident .. | .setMode .. | .restart .. | .linkSetup .. | .setClock .. | .setTiming .. | .setAudit .. | .setCertBase ..
  | .markTest .. | .markSet .. | .markClear .. | .markFlip .. | .loadCarryover .. | .readCarryover .. | .readVerdict ..
  | .stepWindow .. | .stepRead .. | .setUtility .. | .utilityStatus .. | .depart .. | .bayClear .. | .assign .. | .extend ..
  | .abort .. | .hold .. | .resume .. | .orderFill .. | .cancelFill .. | .ruleReferral .. | .certRead .. | .certRetire ..
  | .auditRelease .. | .bayStatus .. | .compartmentStatus .. | .mapRead .. | .pendingRead .. | .reject .. | .gap ..
  | .frameSent .. | .lifted .. | .drainClear .. | .highLevel .. | .bayPortTimeout .. | .bayOrdersSent .. | .stopLineRise
  | .stopLineFall | .faultLineRise .. | .faultLineFall .. | .minuteTick | .resetLineAssert | .resetLineRelease ..
  | .takeWashEntry .. | .takeFillEntry .. | .utilityGrant .. | .frameByteReceived .. | .portByteReceived .. => true

end Sys2Proof
end

