-- ==== Sys2Proof/Decode.lean ====
section
/-! DEFINITION. Decode.lean: the command a word spells by the bits of spec/opcode_table.json. -/

namespace Sys2Proof

/-- The table gives bits to none of its rows (each row's "fields" is empty and it has no "fixed"), so no word spells a
command. The bytes of host frames and bay port messages reach the block through FRAME_BYTE_RECEIVED and PORT_BYTE_RECEIVED,
and are read in Machine/Request.lean, Machine/Links.lean and Machine/Ports.lean. -/
def decodeTableWord (_nbits _w : Nat) : Option Instr := none

end Sys2Proof
end

