-- ==== Sys2Proof/Machine/State.lean ====
section
/-! DEFINITION. Machine/State.lean: every piece of state the manual gives the part, as plain data, and its values after reset. -/

namespace Sys2Proof.Machine

/-! ## Names of states, modes, outcomes and reasons (11.2) -/

/-- The yard mode (R175). -/
inductive Mode where
  | dormant
  | run
  | stopped
  deriving DecidableEq, Repr

/-- Result codes of replies (R172). -/
inductive Result where
  | ok
  | badLength
  | badValue
  | unknownKind
  | notPermitted
  | wrongMode
  | wrongState
  | noSpace
  | backlog
  | noLine
  | forbidden
  | classShort
  deriving DecidableEq, Repr

/-- The nine states of an allocated compartment record (R5). The tenth, FREE, is not being in the pool's list. -/
inductive CompState where
  | admitted
  | queued
  | washing
  | dirty
  | referred
  | awaitCert
  | certified
  | filling
  | filled
  deriving DecidableEq, Repr

/-- Dirty and fault reasons (11.2). SEAT_TIMEOUT stands in FAULT events only. -/
inductive Reason where
  | aborted
  | underrun
  | stepLimit
  | badStep
  | noFlow
  | coldSupply
  | drainStuck
  | flooded
  | lanceLost
  | scanStall
  | verdict
  | referralRejected
  | seatTimeout
  deriving DecidableEq, Repr

/-- Fill outcomes (R21). -/
inductive FillOutcome where
  | complete
  | highLevel
  | cancelled
  | lanceLost
  deriving DecidableEq, Repr

/-- Fill causes of FILL_DONE and FILL_REFUSED (11.2). -/
inductive FillCause where
  | noFlow
  | cancelFill
  | noLine
  | forbidden
  | classShort
  deriving DecidableEq, Repr

/-- A verdict table entry's outcome (R109). NONE, which only a record can hold, is an absent `Judgement`. -/
inductive Judgement where
  | pass (cap : Nat)
  | rewash
  | refer
  deriving DecidableEq, Repr

/-- A carry-over entry (R26). -/
inductive CarryEntry where
  | forbidden
  | required (cls : Nat)
  deriving DecidableEq, Repr

/-- The five wash utilities, which a descriptor's utility field may name (R40). -/
inductive WashUtil where
  | hotWater
  | caustic
  | acid
  | steam
  | dryer
  deriving DecidableEq, Repr

/-- The four scan orders (R97). -/
inductive ScanOrder where
  | ringUp
  | ringDown
  | sectorUp
  | sectorDown
  deriving DecidableEq, Repr

/-- The ten lane states (R65). -/
inductive LaneState where
  | idle
  | seating
  | waitResource
  | running
  | draining
  | scanning
  | starved
  | filling
  | held
  | suspended
  deriving DecidableEq, Repr

/-- Service kinds (R61). -/
inductive Service where
  | wash
  | fill
  deriving DecidableEq, Repr

/-- The hold causes' names (R86). -/
inductive Cause where
  | host
  | lockout
  | stop
  deriving DecidableEq, Repr

/-- The causes of MODE_CHANGE (R176 to R182). -/
inductive ModeCause where
  | setMode
  | stopLine
  | mark7
  | restart
  deriving DecidableEq, Repr

/-- REJECT reasons (R169). -/
inductive RejectReason where
  | badLength
  | gap
  | badCrc
  | badKind
  | overrun
  deriving DecidableEq, Repr

/-! ## Compartment table -/

/-- A visit table entry that is present (R1). -/
structure Visit where
  fleet : Nat
  urgent : Bool
  count : Nat
  deriving DecidableEq, Repr

/-- Chain mode, with the last index a BOUNDED program has (R52, R55). -/
inductive Chain where
  | follow
  | bounded (last : StepIx)
  deriving DecidableEq, Repr

/-- A record's program field (R3, R52). -/
structure Program where
  head : StepIx
  chain : Chain
  cls : Nat
  deriving DecidableEq, Repr

/-- A record's verdict record (R3); outcome `none` is NONE (R13). -/
structure VerdictRec where
  maxGrade : Nat
  overCount : Nat
  outcome : Option Judgement
  index : Nat
  deriving DecidableEq, Repr

/-- A record's fill order (R18). -/
structure FillOrder where
  cargo : Cargo
  target : Nat
  deriving DecidableEq, Repr

/-- An allocated compartment record (R3). `prior = none` is UNKNOWN. -/
structure Comp where
  bay : Bay
  index : Nat
  prior : Option Cargo
  st : CompState
  program : Option Program
  dirty : Option Reason
  achieved : Nat
  verdict : Option VerdictRec
  cert : Option Nat
  order : Option FillOrder
  filled : Nat
  outcome : Option FillOutcome
  water : Nat
  chemical : Nat
  steam : Nat
  dryer : Nat
  deriving DecidableEq, Repr

/-! ## Step store -/

/-- An INSPECT window (R96). -/
structure Window where
  firstRing : Fin 16
  lastRing : Fin 16
  firstSector : Fin 12
  lastSector : Fin 12
  deriving DecidableEq, Repr

/-- A step descriptor: a kind with the fields that kind stores (R40). -/
inductive Descriptor where
  | blank
  | flush (utility : WashUtil) (amount : Nat) (minTemp stall : Option Nat) (drainAfter endMark : Bool) (next : StepIx)
  | blow (utility : WashUtil) (amount : Nat) (minTemp : Option Nat) (endMark : Bool) (next : StepIx)
  | soak (amount : Nat) (drainAfter endMark : Bool) (next : StepIx)
  | inspect (window : Window) (order : ScanOrder) (threshold : Nat) (stall : Nat) (endMark : Bool) (next : StepIx)
  deriving DecidableEq, Repr

/-- The step store (R39): entries, window, write pointer, and for each lane the entry it pins (R49). -/
structure StepStore where
  entries : Vector Descriptor 256
  first : StepIx
  last : StepIx
  pointer : StepIx
  pins : Vector (Option StepIx) 6
  deriving DecidableEq, Repr

/-! ## Lanes -/

/-- An entry of a service queue (R63). -/
structure QEntry where
  index : Nat
  kind : Service
  deriving DecidableEq, Repr

/-- A lane's hold causes (R86). -/
structure Holds where
  host : Bool
  lockout : Bool
  stop : Bool
  deriving DecidableEq, Repr

/-- The lance order (R92). -/
inductive Lance where
  | parked
  | seat (index : Nat)
  | stay
  deriving DecidableEq, Repr

/-- The five bay orders (R92): valves and probe are `true` for open and on. -/
structure Orders where
  lance : Lance
  supply : Option WashUtil
  drain : Bool
  fill : Bool
  probe : Bool
  deriving DecidableEq, Repr

/-- A lane record with its service queue and its bay orders (R61, R63, R92). -/
structure Lane where
  st : LaneState
  current : Option Nat
  service : Option Service
  index : StepIx
  fetched : Nat
  delivered : Nat
  noFlow : Nat
  cold : Nat
  timer : Nat
  temp : Option Nat
  cap : Nat
  inspected : Bool
  anyLitres : Bool
  seated : Option Nat
  holds : Holds
  ret : Option LaneState
  starveRelease : Bool
  queue : List QEntry
  orders : Orders
  deriving DecidableEq, Repr

/-- A bay port (R186): the bytes of a message partway received (`none` is hunting), the orders message being sent, and
whether orders changed while it was going out. -/
structure Port where
  partway : Option (List Byte)
  sending : Option Orders
  due : Bool
  deriving DecidableEq, Repr

/-! ## Inspection unit -/

/-- A zone of the residue map (R95). -/
structure Zone where
  ring : Fin 16
  sector : Fin 12
  deriving DecidableEq, Repr

/-- A lane's scan record (R98). -/
structure Scan where
  pointer : Zone
  written : Nat
  window : Window
  order : ScanOrder
  threshold : Nat
  deriving DecidableEq, Repr

/-- A residue map: 192 zones, ring by ring; `none` is UNSCANNED (R95). -/
abbrev ResidueMap := Vector (Option Grade) 192

/-! ## Utility arbiter -/

/-- A grant or a claim (R116). A grant's kept indication is clear. -/
structure Claim where
  lane : Bay
  urgent : Bool
  arrival : Nat
  kept : Bool
  deriving DecidableEq, Repr

/-- A utility record (R116). `returning` is the count of grants made so far while the utility's return to service is being
judged (R125), absent between events (log 9). -/
structure Util where
  capacity : Nat
  offline : Bool
  fault : Bool
  cargo : Option Cargo
  grants : List Claim
  claims : List Claim
  counter : Nat
  returning : Option Nat
  deriving DecidableEq, Repr

/-! ## Certificate unit -/

/-- A certificate (R142). -/
structure Cert where
  number : Nat
  fleet : Nat
  bay : Bay
  index : Nat
  prior : Option Cargo
  programClass : Nat
  achieved : Nat
  verdictIndex : Option Nat
  maxGrade : Nat
  water : Nat
  chemical : Nat
  steam : Nat
  dryer : Nat
  issueTime : Nat
  referral : Bool
  deriving DecidableEq, Repr

/-- An entry of the withheld list (R146), with the referral flag its certificate will carry (R142, log 22). -/
structure Withheld where
  bay : Bay
  index : Nat
  referral : Bool
  deriving DecidableEq, Repr

/-- The certificate unit (R142 to R156). `next = none` is SPENT. -/
structure CertUnit where
  log : List Cert
  withheld : List Withheld
  next : Option Nat
  period : Nat
  counter : Nat
  hold : Bool
  highWater : Nat
  backlog : Bool
  clock : Nat
  deriving DecidableEq, Repr

/-! ## Notice unit -/

/-- The step kinds (R40). -/
inductive StepKind where
  | blank
  | flush
  | blow
  | soak
  | inspect
  deriving DecidableEq, Repr

/-- The fourteen event kinds (R157). -/
inductive EventKind where
  | stepDone
  | programEnd
  | verdict
  | certIssued
  | fillDone
  | fillRefused
  | fault
  | referral
  | overfill
  | utilityLost
  | utilityBack
  | auditHold
  | backlog
  | modeChange
  deriving DecidableEq, Repr

/-- An event: its kind and its snapshot's fields (R157, 11.6). -/
inductive Event where
  | stepDone (index : Nat) (step : StepIx) (kind : StepKind) (delivered : Nat)
  | programEnd (index achieved : Nat)
  | verdict (index : Nat) (step : StepIx) (maxGrade overCount verdictIndex : Nat) (outcome : Judgement)
  | certIssued (index number achieved : Nat)
  | fillDone (index : Nat) (cargo : Cargo) (filled : Nat) (outcome : FillOutcome) (cause : Option FillCause)
  | fillRefused (index : Nat) (cargo : Cargo) (cause : FillCause)
  | fault (reason : Reason) (index : Nat) (current : StepIx)
  | referral (index : Nat)
  | overfill (index filled target : Nat)
  | utilityLost (utility : UtilId) (plantFault : Bool) (suspended : Nat)
  | utilityBack (utility : UtilId) (grants : Nat)
  | auditHold (spent : Bool) (number : Nat)
  | backlog (on : Bool) (count : Nat)
  | modeChange (left entered : Mode) (cause : ModeCause)
  deriving DecidableEq, Repr

/-- A scope: 0 the yard, 1 to 6 a bay (R158). -/
abbrev Scope := Fin 7

/-- A pending entry (R158): its event's kind with the latest snapshot, its count and its order number. -/
structure Entry where
  event : Event
  count : Nat
  order : Nat
  deriving DecidableEq, Repr

/-- A notice in a queue (R160). -/
structure Notice where
  scope : Scope
  event : Event
  count : Nat
  deriving DecidableEq, Repr

/-- The notice unit (R158 to R164). `masks` holds kind k at index k − 1, `true` for masked. -/
structure NoticeUnit where
  pending : Vector (List Entry) 7
  counter : Nat
  masks : Vector Bool 14
  showMasked : Bool
  output : Bool
  urgent : List Notice
  routine : List Notice
  deriving DecidableEq, Repr

/-! ## Link unit -/

/-- A frame's kind, tag and body (R168). -/
structure Frame where
  kind : Byte
  tag : Byte
  body : List Byte
  deriving DecidableEq, Repr

/-- A pending REJECT (R169). -/
structure Reject where
  reason : RejectReason
  lost : Nat
  deriving DecidableEq, Repr

/-- Frame assembly state (R168): in CONTENT the length byte and the content bytes so far, in CHECK all the content bytes and
the check bytes so far (none or one). -/
inductive Assembly where
  | hunting
  | length
  | content (len : Byte) (got : List Byte)
  | check (len : Byte) (content : List Byte) (got : List Byte)
  deriving DecidableEq, Repr

/-- The frame on the wire (R173). -/
inductive Sending where
  | reply (frame : Frame)
  | reject (r : Reject)
  | notice (n : Notice)
  deriving DecidableEq, Repr

/-- One host link (R168 to R173). `gapTimer` says whether the gap timer runs; `rejectFirst` whether the pending REJECT was made
before the waiting reply. -/
structure Link where
  assembly : Assembly
  gapTimer : Bool
  buffer : Option Frame
  inHand : Bool
  reply : Option Frame
  reject : Option Reject
  rejectFirst : Bool
  sending : Option Sending
  deriving DecidableEq, Repr

/-! ## Mode control, timing, pins -/

/-- The lane timing values (R62). -/
structure Timing where
  seat : Nat
  cold : Nat
  drain : Nat
  starve : Nat
  fillStall : Nat
  deriving DecidableEq, Repr

/-- The levels of the input lines, and whether the reset line is held (R118, R177, R183). -/
structure Pins where
  stop : Bool
  faults : Vector Bool 7
  resetHeld : Bool
  deriving DecidableEq, Repr

/-! ## The machine -/

/-- The whole part (00 Blocks) and the queue of commands waiting for it. -/
structure State where
  pending : List Instr
  freeCount : Nat
  pins : Pins
  office : Link
  panel : Link
  officeRate : Nat
  mode : Mode
  stopLevel : Bool
  marks : Vector Bool 32
  timing : Timing
  visits : Vector (Option Visit) 6
  records : List Comp
  carry : Vector (Vector CarryEntry 16) 17
  store : StepStore
  lanes : Vector Lane 6
  ports : Vector Port 6
  maps : Vector ResidueMap 6
  scans : Vector (Option Scan) 6
  verdicts : Vector Judgement 64
  utils : Vector Util 7
  certs : CertUnit
  notices : NoticeUnit
  deriving DecidableEq, Repr

/-- Reasons a step stops with a fault. The manual gives the block no behaviour that stops it, so there is none: every lane
fault, link error and refused request of the manual is a next state. -/
inductive Fault where
  deriving DecidableEq, Repr

/-- Reasons a step is refused. -/
inductive Refusal where
  /-- Raised by an arm of `exec` whose row has no meaning yet; safe, since nothing can be proved of such a step. No arm uses it. -/
  | notModelled (mnemonic : String)
  deriving DecidableEq, Repr

/-! ## Values after a reset -/

/-- Bay orders after a reset: parked, none, open, closed, off (R94). -/
def Orders.reset : Orders := { lance := .parked, supply := none, drain := true, fill := false, probe := false }

/-- No hold cause. -/
def Holds.none : Holds := { host := false, lockout := false, stop := false }

/-- A lane after a reset (R94); the lockout cause is added from the marks where they are kept. -/
def Lane.reset (lockout : Bool) : Lane :=
  { st := .idle, current := none, service := none, index := 0, fetched := 0, delivered := 0, noFlow := 0, cold := 0, timer := 0,
    temp := none, cap := 7, inspected := false, anyLitres := false, seated := none,
    holds := { host := false, lockout := lockout, stop := false }, ret := none, starveRelease := false, queue := [],
    orders := Orders.reset }

/-- A link after the reset line (R174). -/
def Link.reset : Link :=
  { assembly := .hunting, gapTimer := false, buffer := none, inHand := false, reply := none, reject := none,
    rejectFirst := false, sending := none }

/-- Default capacities (R115), in code order. -/
def defaultCapacities : Vector Nat 7 := #v[3, 2, 1, 2, 1, 1, 1]

/-- A utility after the reset line, its fault flag read from its line (R130). -/
def Util.reset (capacity : Nat) (fault : Bool) : Util :=
  { capacity := capacity, offline := false, fault := fault, cargo := none, grants := [], claims := [], counter := 0,
    returning := none }

/-- The lane timing defaults (R62, R181). -/
def Timing.reset : Timing := { seat := 40, cold := 120, drain := 60, starve := 20, fillStall := 30 }

/-- The step store after the reset line (R60). -/
def StepStore.reset : StepStore :=
  { entries := Vector.replicate 256 .blank, first := 0, last := 255, pointer := 0, pins := Vector.replicate 6 none }

/-- A residue map with every zone UNSCANNED (R95, R114). -/
def ResidueMap.clear : ResidueMap := Vector.replicate 192 none

/-- The certificate unit after the reset line (R156). -/
def CertUnit.reset : CertUnit :=
  { log := [], withheld := [], next := some 1, period := 0, counter := 0, hold := false, highWater := 16, backlog := false,
    clock := 0 }

/-- The masks after the reset line: STEP_DONE masked, the other thirteen unmasked (R157, R167). -/
def defaultMasks : Vector Bool 14 :=
  #v[true, false, false, false, false, false, false, false, false, false, false, false, false, false]

/-- The notice unit after the reset line (R167). -/
def NoticeUnit.reset : NoticeUnit :=
  { pending := Vector.replicate 7 [], counter := 0, masks := defaultMasks, showMasked := false, output := false, urgent := [],
    routine := [] }

/-- A bay port after the reset line is released: hunting, with the reset orders going out (R186). -/
def Port.released : Port := { partway := none, sending := some Orders.reset, due := false }

/-- The machine right after reset (R183): every block at its reset-line values, the reset line released, the stop line and the
fault lines low and the straps at code 0 (log 11), the six ports sending the reset orders, nothing waiting. -/
def State.reset : State :=
  { pending := [], freeCount := 0,
    pins := { stop := false, faults := Vector.replicate 7 false, resetHeld := false },
    office := Link.reset, panel := Link.reset, officeRate := 0, mode := .dormant, stopLevel := false,
    marks := Vector.replicate 32 false, timing := Timing.reset, visits := Vector.replicate 6 none, records := [],
    carry := Vector.replicate 17 (Vector.replicate 16 .forbidden), store := StepStore.reset,
    lanes := Vector.replicate 6 (Lane.reset false), ports := Vector.replicate 6 Port.released,
    maps := Vector.replicate 6 ResidueMap.clear, scans := Vector.replicate 6 none, verdicts := Vector.replicate 64 .refer,
    utils := Vector.ofFn fun i => Util.reset defaultCapacities[i] false, certs := CertUnit.reset, notices := NoticeUnit.reset }

end Sys2Proof.Machine
end

