-- ==== Sys2Proof/Machine/Operands.lean ====
section
/-! DEFINITION. Machine/Operands.lean: byte order, and the code tables of 11.2 read both ways. -/

namespace Sys2Proof.Machine

/-! ## Bytes, high byte first (R184) -/

/-- A number as one byte. -/
def byte (n : Nat) : Byte := BitVec.ofNat 8 n
/-- A number as two bytes, high byte first. -/
def bytes2 (n : Nat) : List Byte := [byte (n / 256), byte n]
/-- A number as three bytes, high byte first. -/
def bytes3 (n : Nat) : List Byte := [byte (n / 65536), byte (n / 256), byte n]
/-- A number as four bytes, high byte first. -/
def bytes4 (n : Nat) : List Byte := [byte (n / 16777216), byte (n / 65536), byte (n / 256), byte n]
/-- Two bytes as a number, high byte first. -/
def nat2 (a b : Byte) : Nat := a.toNat * 256 + b.toNat
/-- Three bytes as a number, high byte first. -/
def nat3 (a b c : Byte) : Nat := a.toNat * 65536 + b.toNat * 256 + c.toNat
/-- Four bytes as a number, high byte first. -/
def nat4 (a b c d : Byte) : Nat := a.toNat * 16777216 + b.toNat * 65536 + c.toNat * 256 + d.toNat
/-- A yes/no byte, 1 for yes. -/
def flag (b : Bool) : Byte := if b then 1 else 0
/-- A count that stops at `max`. -/
def satAdd (max n k : Nat) : Nat := min max (n + k)

/-! ## Reading fields of requests (R185): `none` is a value outside the field's table or range -/

/-- A yes/no byte. -/
def bool? (x : Byte) : Option Bool := if x.toNat = 0 then some false else if x.toNat = 1 then some true else none
/-- A bay number, 1 to 6. -/
def bay? (x : Byte) : Option Bay := if h : 1 ≤ x.toNat ∧ x.toNat ≤ 6 then some ⟨x.toNat - 1, by omega⟩ else none
/-- A compartment index, 1 to 8. -/
def index? (x : Byte) : Option Nat := if 1 ≤ x.toNat ∧ x.toNat ≤ 8 then some x.toNat else none
/-- A cargo class, 0 to 15. -/
def cargo? (x : Byte) : Option Cargo := if h : x.toNat < 16 then some ⟨x.toNat, h⟩ else none
/-- A cargo class or none, 0xFF. -/
def cargoOrNone? (x : Byte) : Option (Option Cargo) := if x.toNat = 0xFF then some none else (cargo? x).map some
/-- A prior class: 0 to 15, or UNKNOWN, 0x10. -/
def prior? (x : Byte) : Option (Option Cargo) := if x.toNat = 0x10 then some none else (cargo? x).map some
/-- A program class or a ruling's class, 1 to 7. -/
def class? (x : Byte) : Option Nat := if 1 ≤ x.toNat ∧ x.toNat ≤ 7 then some x.toNat else none
/-- A priority; `true` is URGENT. -/
def priority? (x : Byte) : Option Bool := bool? x
/-- A step store index; every byte names an entry. -/
def stepIx (x : Byte) : StepIx := ⟨x.toNat, by have := x.isLt; omega⟩
/-- A chain mode with its last index, which is ignored for FOLLOW. -/
def chain? (mode last : Byte) : Option Chain :=
  if mode.toNat = 0 then some .follow else if mode.toNat = 1 then some (.bounded (stepIx last)) else none
/-- A yard mode. -/
def mode? (x : Byte) : Option Mode :=
  match x.toNat with
  | 0 => some .dormant
  | 1 => some .run
  | 2 => some .stopped
  | _ => none
/-- A utility code. -/
def util? (x : Byte) : Option UtilId :=
  match x.toNat with
  | 0 => some .hotWater
  | 1 => some .caustic
  | 2 => some .acid
  | 3 => some .steam
  | 4 => some .dryer
  | 5 => some .fillA
  | 6 => some .fillB
  | _ => none
/-- A wash utility code, as a descriptor's utility field must be (R42). -/
def washUtil? (x : Byte) : Option WashUtil :=
  match x.toNat with
  | 0 => some .hotWater
  | 1 => some .caustic
  | 2 => some .acid
  | 3 => some .steam
  | 4 => some .dryer
  | _ => none
/-- A carry-over entry: class 1 to 7, or FORBIDDEN, 0x0F. -/
def carryEntry? (x : Byte) : Option CarryEntry :=
  if x.toNat = 0x0F then some .forbidden else (class? x).map .required
/-- A verdict table outcome: PASS with cap k is k, REWASH 0x10, REFER 0x11. -/
def judgement? (x : Byte) : Option Judgement :=
  if x.toNat = 0x10 then some .rewash else if x.toNat = 0x11 then some .refer else (class? x).map .pass
/-- A scan order. -/
def scanOrder? (x : Byte) : Option ScanOrder :=
  match x.toNat with
  | 0 => some .ringUp
  | 1 => some .ringDown
  | 2 => some .sectorUp
  | 3 => some .sectorDown
  | _ => none
/-- A ring, 0 to 15. -/
def ring? (x : Byte) : Option (Fin 16) := if h : x.toNat < 16 then some ⟨x.toNat, h⟩ else none
/-- A sector, 0 to 11. -/
def sector? (x : Byte) : Option (Fin 12) := if h : x.toNat < 12 then some ⟨x.toNat, h⟩ else none
/-- An event kind. -/
def eventKind? (x : Byte) : Option EventKind :=
  match x.toNat with
  | 1 => some .stepDone
  | 2 => some .programEnd
  | 3 => some .verdict
  | 4 => some .certIssued
  | 5 => some .fillDone
  | 6 => some .fillRefused
  | 7 => some .fault
  | 8 => some .referral
  | 9 => some .overfill
  | 10 => some .utilityLost
  | 11 => some .utilityBack
  | 12 => some .auditHold
  | 13 => some .backlog
  | 14 => some .modeChange
  | _ => none
/-- A scope: 0 the yard, 1 to 6 a bay. -/
def scope? (x : Byte) : Option Scope := if h : x.toNat < 7 then some ⟨x.toNat, h⟩ else none
/-- Every entry of a list read, or `none` when one of them is out of its table. -/
def all? {α β : Type} (f : α → Option β) : List α → Option (List β)
  | [] => some []
  | x :: xs => match f x, all? f xs with
    | some y, some ys => some (y :: ys)
    | _, _ => none

/-! ## Codes of values sent (11.2) -/

/-- The bay's number, 1 to 6. -/
def bayNum (b : Bay) : Nat := b.val + 1
/-- A bay's scope (R158). -/
def bayScope (b : Bay) : Scope := ⟨b.val + 1, by omega⟩
/-- An optional one-byte field whose values never reach 0xFF (R184). -/
def orAbsent (x : Option Nat) : Byte := match x with
  | none => 0xFF
  | some n => byte n

def Mode.code : Mode → Nat
  | .dormant => 0
  | .run => 1
  | .stopped => 2
def Result.code : Result → Nat
  | .ok => 0
  | .badLength => 1
  | .badValue => 2
  | .unknownKind => 3
  | .notPermitted => 4
  | .wrongMode => 5
  | .wrongState => 6
  | .noSpace => 7
  | .backlog => 8
  | .noLine => 9
  | .forbidden => 10
  | .classShort => 11
def CompState.code : CompState → Nat
  | .admitted => 1
  | .queued => 2
  | .washing => 3
  | .dirty => 4
  | .referred => 5
  | .awaitCert => 6
  | .certified => 7
  | .filling => 8
  | .filled => 9
def Reason.code : Reason → Nat
  | .aborted => 1
  | .underrun => 2
  | .stepLimit => 3
  | .badStep => 4
  | .noFlow => 5
  | .coldSupply => 6
  | .drainStuck => 7
  | .flooded => 8
  | .lanceLost => 9
  | .scanStall => 10
  | .verdict => 11
  | .referralRejected => 12
  | .seatTimeout => 13
def FillOutcome.code : FillOutcome → Nat
  | .complete => 0
  | .highLevel => 1
  | .cancelled => 2
  | .lanceLost => 3
def FillCause.code : FillCause → Nat
  | .noFlow => 0
  | .cancelFill => 1
  | .noLine => 2
  | .forbidden => 3
  | .classShort => 4
def Judgement.code : Judgement → Nat
  | .pass cap => cap
  | .rewash => 0x10
  | .refer => 0x11
def CarryEntry.code : CarryEntry → Nat
  | .forbidden => 0x0F
  | .required cls => cls
def utilCode : UtilId → Nat
  | .hotWater => 0
  | .caustic => 1
  | .acid => 2
  | .steam => 3
  | .dryer => 4
  | .fillA => 5
  | .fillB => 6
def WashUtil.code : WashUtil → Nat
  | .hotWater => 0
  | .caustic => 1
  | .acid => 2
  | .steam => 3
  | .dryer => 4
def ScanOrder.code : ScanOrder → Nat
  | .ringUp => 0
  | .ringDown => 1
  | .sectorUp => 2
  | .sectorDown => 3
def LaneState.code : LaneState → Nat
  | .idle => 0
  | .seating => 1
  | .waitResource => 2
  | .running => 3
  | .draining => 4
  | .scanning => 5
  | .starved => 6
  | .filling => 7
  | .held => 8
  | .suspended => 9
def Service.code : Service → Nat
  | .wash => 0
  | .fill => 1
def StepKind.code : StepKind → Nat
  | .blank => 0
  | .flush => 1
  | .blow => 2
  | .soak => 3
  | .inspect => 4
def ModeCause.code : ModeCause → Nat
  | .setMode => 0
  | .stopLine => 1
  | .mark7 => 2
  | .restart => 3
def RejectReason.code : RejectReason → Nat
  | .badLength => 1
  | .gap => 2
  | .badCrc => 3
  | .badKind => 4
  | .overrun => 5
def EventKind.code : EventKind → Nat
  | .stepDone => 1
  | .programEnd => 2
  | .verdict => 3
  | .certIssued => 4
  | .fillDone => 5
  | .fillRefused => 6
  | .fault => 7
  | .referral => 8
  | .overfill => 9
  | .utilityLost => 10
  | .utilityBack => 11
  | .auditHold => 12
  | .backlog => 13
  | .modeChange => 14
def Chain.code : Chain → Nat
  | .follow => 0
  | .bounded _ => 1
/-- The office rate code in use for a strap code: straps 6 and 7 select 19,200 baud, code 0 (R174, 11.2). -/
def rateOfStraps (straps : Fin 8) : Nat := if straps.val < 6 then straps.val else 0
/-- Prior class code. -/
def priorCode (p : Option Cargo) : Nat := match p with
  | none => 0x10
  | some c => c.val
/-- Cargo class code of a utility. -/
def cargoCode (c : Option Cargo) : Nat := match c with
  | none => 0xFF
  | some c => c.val
/-- Hold causes as flags: bit 0 HOST, bit 1 LOCKOUT, bit 2 STOP. -/
def Holds.code (h : Holds) : Nat := (if h.host then 1 else 0) + (if h.lockout then 2 else 0) + (if h.stop then 4 else 0)
/-- Lance byte: 0 parked, 1 to 8 seating there, 9 stay (11.7). -/
def Lance.code : Lance → Nat
  | .parked => 0
  | .seat k => k
  | .stay => 9

end Sys2Proof.Machine

namespace Sys2Proof.Machine

/-- A utility's place in the arbiter's vector: its code. -/
def utilIx (u : UtilId) : Fin 7 :=
  match u with
  | .hotWater => 0
  | .caustic => 1
  | .acid => 2
  | .steam => 3
  | .dryer => 4
  | .fillA => 5
  | .fillB => 6
/-- A wash utility among the seven. -/
def WashUtil.util : WashUtil → UtilId
  | .hotWater => .hotWater
  | .caustic => .caustic
  | .acid => .acid
  | .steam => .steam
  | .dryer => .dryer
/-- FILL_A and FILL_B are the fill lines (R115). -/
def isFillLine (u : UtilId) : Bool := u == .fillA || u == .fillB
/-- A kind's mask bit: kind k is bit k − 1 (11.4). -/
def EventKind.ix : EventKind → Fin 14
  | .stepDone => 0
  | .programEnd => 1
  | .verdict => 2
  | .certIssued => 3
  | .fillDone => 4
  | .fillRefused => 5
  | .fault => 6
  | .referral => 7
  | .overfill => 8
  | .utilityLost => 9
  | .utilityBack => 10
  | .auditHold => 11
  | .backlog => 12
  | .modeChange => 13
/-- All seven utilities, in code order. -/
def allUtils : List UtilId := [.hotWater, .caustic, .acid, .steam, .dryer, .fillA, .fillB]
/-- All six bays, in ascending number. -/
def allBays : List Bay := [0, 1, 2, 3, 4, 5]

/-! ## Step descriptors (R40 to R43, 11.5) -/

/-- The kind of a descriptor. -/
def Descriptor.kind : Descriptor → StepKind
  | .blank => .blank
  | .flush .. => .flush
  | .blow .. => .blow
  | .soak .. => .soak
  | .inspect .. => .inspect
/-- The wash utility a FLUSH or BLOW draws on. -/
def Descriptor.utility? : Descriptor → Option WashUtil
  | .flush u .. => some u
  | .blow u .. => some u
  | _ => none
/-- End mark; a BLANK carries none. -/
def Descriptor.endMark : Descriptor → Bool
  | .blank => false
  | .flush _ _ _ _ _ e _ => e
  | .blow _ _ _ e _ => e
  | .soak _ _ e _ => e
  | .inspect _ _ _ _ e _ => e
/-- The next field; a BLANK carries none. -/
def Descriptor.next? : Descriptor → Option StepIx
  | .blank => none
  | .flush _ _ _ _ _ _ n => some n
  | .blow _ _ _ _ n => some n
  | .soak _ _ _ n => some n
  | .inspect _ _ _ _ _ n => some n
/-- Drain after, which FLUSH and SOAK carry. -/
def Descriptor.drainAfter : Descriptor → Bool
  | .flush _ _ _ _ d _ _ => d
  | .soak _ d _ _ => d
  | _ => false
/-- The amount at which a FLUSH, BLOW or SOAK step ends. -/
def Descriptor.amount? : Descriptor → Option Nat
  | .flush _ a _ _ _ _ _ => some a
  | .blow _ a _ _ _ => some a
  | .soak a _ _ _ => some a
  | _ => none
/-- The stall limit of a FLUSH (optional) or an INSPECT. -/
def Descriptor.stall? : Descriptor → Option Nat
  | .flush _ _ _ s _ _ _ => s
  | .inspect _ _ _ s _ _ => some s
  | _ => none
/-- Validity as a lane judges it at a fetch (R43). -/
def Descriptor.valid : Descriptor → Bool
  | .blank => false
  | .flush u .. => u == .hotWater || u == .caustic || u == .acid
  | .blow u .. => u == .steam || u == .dryer
  | .soak .. => true
  | .inspect w .. => w.firstRing.val ≤ w.lastRing.val && w.firstSector.val ≤ w.lastSector.val

/-- A minimum temperature field: absent with its flag bit clear, else 0 to 99 (R42). -/
def minTemp? (present : Bool) (x : Byte) : Option (Option Nat) :=
  if present then (if x.toNat ≤ 99 then some (some x.toNat) else none) else some none
/-- A stall limit field: absent with its flag bit clear, else 1 to 255 (R42). -/
def stallField? (present : Bool) (x : Byte) : Option (Option Nat) :=
  if present then (if 1 ≤ x.toNat then some (some x.toNat) else none) else some none

/-- A descriptor as STEP_WRITE judges it (R42, R185): `none` is one of the faults of R42 or a set unused flag bit. Bytes of
fields that the kind does not store are not judged; for a BLANK that is every byte but the kind (log 17). -/
def RawStep.read (r : RawStep) : Option Descriptor :=
  let amount := nat2 r.amountHigh r.amountLow
  let endMark := r.flags.getLsbD 0
  let drain := r.flags.getLsbD 1
  let unused : Bool := decide (16 ≤ r.flags.toNat)
  match r.kind.toNat with
  | 0 => some .blank
  | 1 =>
    match washUtil? r.utility, minTemp? (r.flags.getLsbD 2) r.minTemp, stallField? (r.flags.getLsbD 3) r.stall with
    | some u, some t, some s =>
      if unused = false ∧ 1 ≤ amount ∧ amount ≤ 20000 then some (.flush u amount t s drain endMark (stepIx r.next)) else none
    | _, _, _ => none
  | 2 =>
    match washUtil? r.utility, minTemp? (r.flags.getLsbD 2) r.minTemp with
    | some u, some t => if unused = false ∧ 1 ≤ amount then some (.blow u amount t endMark (stepIx r.next)) else none
    | _, _ => none
  | 3 => if unused = false ∧ 1 ≤ amount then some (.soak amount drain endMark (stepIx r.next)) else none
  | 4 =>
    match stallField? (r.flags.getLsbD 3) r.stall, ring? r.firstRing, ring? r.lastRing, sector? r.firstSector,
      sector? r.lastSector, scanOrder? r.order with
    | some (some s), some r0, some r1, some c0, some c1, some o =>
      if unused = false ∧ r.threshold.toNat ≤ 7 then
        some (.inspect { firstRing := r0, lastRing := r1, firstSector := c0, lastSector := c1 } o r.threshold.toNat s endMark
          (stepIx r.next))
      else none
    | _, _, _, _, _, _ => none
  | _ => none

/-- The flags byte of a descriptor (11.5). -/
def flagsByte (endMark drain temp stall : Bool) : Byte :=
  byte ((if endMark then 1 else 0) + (if drain then 2 else 0) + (if temp then 4 else 0) + (if stall then 8 else 0))

/-- A descriptor's sixteen bytes as STEP_READ returns them: fields not stored as 0, the utility as 0xFF (11.5). -/
def Descriptor.bytes : Descriptor → List Byte
  | .blank => [0, 0, 0xFF, 0, 0, 0, 0, 0, 0, 0, 0, 0, 0, 0, 0, 0]
  | .flush u a t s d e n =>
    [1, flagsByte e d t.isSome s.isSome, byte u.code] ++ bytes2 a ++
      [byte (t.getD 0), byte (s.getD 0), byte n.val, 0, 0, 0, 0, 0, 0, 0, 0]
  | .blow u a t e n =>
    [2, flagsByte e false t.isSome false, byte u.code] ++ bytes2 a ++ [byte (t.getD 0), 0, byte n.val, 0, 0, 0, 0, 0, 0, 0, 0]
  | .soak a d e n => [3, flagsByte e d false false, 0xFF] ++ bytes2 a ++ [0, 0, byte n.val, 0, 0, 0, 0, 0, 0, 0, 0]
  | .inspect w o h s e n =>
    [4, flagsByte e false false true, 0xFF, 0, 0, 0, byte s, byte n.val, byte w.firstRing.val, byte w.lastRing.val,
      byte w.firstSector.val, byte w.lastSector.val, byte o.code, byte h, 0, 0]

end Sys2Proof.Machine
end

