-- ==== Sys2Proof/Machine/Flags.lean ====
section
/-! DEFINITION. Machine/Flags.lean: the notice unit's event kinds and snapshots, the attention line, and the condition byte and
body of a reply. -/

namespace Sys2Proof.Machine

/-- The kind of an event (R157). -/
def Event.kind : Event → EventKind
  | .stepDone .. => .stepDone
  | .programEnd .. => .programEnd
  | .verdict .. => .verdict
  | .certIssued .. => .certIssued
  | .fillDone .. => .fillDone
  | .fillRefused .. => .fillRefused
  | .fault .. => .fault
  | .referral .. => .referral
  | .overfill .. => .overfill
  | .utilityLost .. => .utilityLost
  | .utilityBack .. => .utilityBack
  | .auditHold .. => .auditHold
  | .backlog .. => .backlog
  | .modeChange .. => .modeChange

/-- Which kinds join the urgent queue (R157). -/
def EventKind.urgent : EventKind → Bool
  | .fault | .referral | .overfill | .utilityLost | .auditHold | .backlog | .modeChange => true
  | .stepDone | .programEnd | .verdict | .certIssued | .fillDone | .fillRefused | .utilityBack => false

/-- Which kinds are yard kinds (R157). -/
def EventKind.yard : EventKind → Bool
  | .utilityLost | .utilityBack | .auditHold | .backlog | .modeChange => true
  | .stepDone | .programEnd | .verdict | .certIssued | .fillDone | .fillRefused | .fault | .referral | .overfill => false

/-- A snapshot's fields in their order (11.6). -/
def Event.fields : Event → List Byte
  | .stepDone k i s d => [byte k, byte i.val, byte s.code] ++ bytes2 d
  | .programEnd k a => [byte k, byte a]
  | .verdict k i m c v o => [byte k, byte i.val, byte m, byte c, byte v, byte o.code]
  | .certIssued k n a => [byte k] ++ bytes4 n ++ [byte a]
  | .fillDone k g f o c => [byte k, byte g.val] ++ bytes2 f ++ [byte o.code, orAbsent (c.map FillCause.code)]
  | .fillRefused k g c => [byte k, byte g.val, byte c.code]
  | .fault r k i => [byte r.code, byte k, byte i.val]
  | .referral k => [byte k]
  | .overfill k f t => [byte k] ++ bytes2 f ++ bytes2 t
  | .utilityLost u p n => [byte (utilCode u), flag p, byte n]
  | .utilityBack u n => [byte (utilCode u), byte n]
  | .auditHold s n => flag s :: bytes4 n
  | .backlog o n => [flag o, byte n]
  | .modeChange l e c => [byte l.code, byte e.code, byte c.code]

/-- A snapshot's eight bytes: its fields from the first byte, then 0 (11.6). -/
def Event.bytes (e : Event) : List Byte := (e.fields ++ List.replicate 8 0).take 8

/-- The attention line is driven while either notice queue holds a notice (R164). -/
def NoticeUnit.attention (u : NoticeUnit) : Bool := !u.urgent.isEmpty || !u.routine.isEmpty

/-- What an owner answers a request with: result, the fields after the two opening bytes, and the two conditions that depend on
the request (R172). -/
structure Reply where
  result : Result
  fields : List Byte
  limited : Bool
  prior : Bool
  deriving DecidableEq, Repr

/-- A refusal: the result and condition bytes alone (R172). -/
def Reply.refuse (r : Result) : Reply := { result := r, fields := [], limited := false, prior := false }
/-- An acceptance with its fields and no condition of its own. -/
def Reply.ok (fields : List Byte) : Reply := { result := .ok, fields := fields, limited := false, prior := false }

/-- The condition byte (R172, R184): Limited bit 0, Prior bit 1, Hold bit 2, Attention bit 3, as the part stands when the reply
is built. -/
def conditionByte (s : State) (r : Reply) : Byte :=
  byte ((if r.limited then 1 else 0) + (if r.prior then 2 else 0) + (if s.certs.hold then 4 else 0) +
    (if s.notices.attention then 8 else 0))

/-- A reply's frame (R172): kind 0x80 plus the request's, the request's tag, result, conditions, fields. -/
def replyFrame (s : State) (kind tag : Byte) (r : Reply) : Frame :=
  { kind := 0x80 + kind, tag := tag, body := byte r.result.code :: conditionByte s r :: r.fields }

end Sys2Proof.Machine
end

