-- ==== Sys2Proof/Machine/Notices.lean ====
section
/-! DEFINITION. Machine/Notices.lean: raising events into the pending sets, logging them into the queues, and taking notices for
sending (R158 to R164). -/

namespace Sys2Proof.Machine

/-- The seven scopes, the yard first. -/
def allScopes : List Scope := [0, 1, 2, 3, 4, 5, 6]

namespace NoticeUnit

/-- A scope's pending set. -/
def set (u : NoticeUnit) (sc : Scope) : List Entry := u.pending[sc]

/-- Whether a kind is masked (R163). -/
def masked (u : NoticeUnit) (k : EventKind) : Bool := u.masks[k.ix]

/-- No set holds an entry. -/
def noneEntered (u : NoticeUnit) : Bool := allScopes.all fun sc => (u.set sc).isEmpty

/-- After a removal, the order counter returns to 0 when all seven sets are empty (R158). -/
def settleCounter (u : NoticeUnit) : NoticeUnit := if u.noneEntered then { u with counter := 0 } else u

/-- An event entered into its set (R159): folded into the entry of its kind, or a new entry with the next order number. -/
def enter (u : NoticeUnit) (sc : Scope) (e : Event) : NoticeUnit :=
  if (u.set sc).any fun x => x.event.kind = e.kind then
    { u with pending := u.pending.set sc ((u.set sc).map fun x =>
        if x.event.kind = e.kind then { x with event := e, count := satAdd Config.max8 x.count 1 } else x) }
  else
    { u with pending := u.pending.set sc (u.set sc ++ [{ event := e, count := 1, order := u.counter }]),
             counter := satAdd Config.max32 u.counter 1 }

/-- An entry leaves its set (R158). -/
def removeKind (u : NoticeUnit) (sc : Scope) (k : EventKind) : NoticeUnit :=
  settleCounter { u with pending := u.pending.set sc ((u.set sc).filter fun x => x.event.kind ≠ k) }

/-- Which of two waiting entries is the older: by order number, then the yard before the bays in ascending number, then the
kinds in the order of R157's table (R158). -/
def older (a b : Scope × Entry) : Bool :=
  a.2.order < b.2.order ||
    (a.2.order == b.2.order &&
      (a.1.val < b.1.val || (a.1.val == b.1.val && a.2.event.kind.code < b.2.event.kind.code)))

/-- The candidates of a queue (R160): pending entries of unmasked kinds that belong to it, from all seven sets. -/
def candidates (u : NoticeUnit) (urgent : Bool) : List (Scope × Entry) :=
  allScopes.flatMap fun sc =>
    ((u.set sc).filter fun x => x.event.kind.urgent = urgent && !u.masked x.event.kind).map fun x => (sc, x)

/-- The oldest of a list of waiting entries. -/
def oldest : List (Scope × Entry) → Option (Scope × Entry)
  | [] => none
  | x :: xs => match oldest xs with
    | none => some x
    | some y => if older y x then some y else some x

/-- One queue, by whether it is the urgent one. -/
def queue (u : NoticeUnit) (urgent : Bool) : List Notice := if urgent then u.urgent else u.routine
/-- Its capacity (R160). -/
def capacity (urgent : Bool) : Nat := if urgent then Config.urgentCapacity else Config.routineCapacity
/-- The unit with one queue replaced. -/
def setQueue (u : NoticeUnit) (urgent : Bool) (q : List Notice) : NoticeUnit :=
  if urgent then { u with urgent := q } else { u with routine := q }

/-- One candidate logged (R160), while notice output is on and the queue has room. -/
def logOne (u : NoticeUnit) (urgent : Bool) : Option NoticeUnit :=
  if u.output ∧ (u.queue urgent).length < capacity urgent then
    match oldest (u.candidates urgent) with
    | none => none
    | some (sc, x) =>
      some ((u.setQueue urgent (u.queue urgent ++ [{ scope := sc, event := x.event, count := x.count }])).removeKind sc
        x.event.kind)
  else none

/-- At most n candidates logged, one after another. -/
def logUpTo : Nat → Bool → NoticeUnit → NoticeUnit
  | 0, _, u => u
  | n + 1, urgent, u => match u.logOne urgent with
    | none => u
    | some u' => logUpTo n urgent u'

/-- A queue judged (R160): candidates are logged while there is room; the room bounds how many. -/
def judge (u : NoticeUnit) (urgent : Bool) : NoticeUnit :=
  logUpTo (capacity urgent - (u.queue urgent).length) urgent u

/-- An event raised (R159): entered or folded, then its kind's queue judged. -/
def raise (u : NoticeUnit) (sc : Scope) (e : Event) : NoticeUnit := (u.enter sc e).judge e.kind.urgent

/-- A notice taken for sending (R161, R173): only while output is on, the oldest urgent before any routine; the queue that lost
it is judged at once. -/
def take (u : NoticeUnit) : Option (Notice × NoticeUnit) :=
  if u.output then
    match u.urgent with
    | n :: rest => some (n, ({ u with urgent := rest }).judge true)
    | [] => match u.routine with
      | n :: rest => some (n, ({ u with routine := rest }).judge false)
      | [] => none
  else none

end NoticeUnit

/-- The notice unit replaced. -/
def State.setNotices (s : State) (u : NoticeUnit) : State := { s with notices := u }
/-- An event raised into a bay's pending set (R157). -/
def State.raiseBay (s : State) (b : Bay) (e : Event) : State := s.setNotices (s.notices.raise (bayScope b) e)
/-- An event raised into the yard's pending set (R157). -/
def State.raiseYard (s : State) (e : Event) : State := s.setNotices (s.notices.raise 0 e)

end Sys2Proof.Machine
end

