-- ==== Sys2Proof/Machine/Ops.lean ====
section
/-! DEFINITION. Machine/Ops.lean: the accessors of every block and the operations several commands share. -/

namespace Sys2Proof.Machine

/-! ## Lanes and their bay orders (R92, R186) -/

/-- A bay's lane. -/
def State.lane (s : State) (b : Bay) : Lane := s.lanes[b]
/-- A bay's port. -/
def State.port (s : State) (b : Bay) : Port := s.ports[b]
/-- A step store entry. -/
def State.entry (s : State) (i : StepIx) : Descriptor := s.store.entries[i]
/-- The entry at a lane's current index. -/
def State.stepOf (s : State) (b : Bay) : Descriptor := s.entry (s.lane b).index

/-- The orders of a lane executing the descriptor `d` (R92). An IDLE lane keeps its lance order. -/
def ordersOf (d : Descriptor) (l : Lane) : Orders :=
  let wash : Orders := { lance := .stay, supply := none, drain := true, fill := false, probe := false }
  let notFill : Bool := l.service ≠ some .fill
  match l.st with
  | .idle => { wash with lance := l.orders.lance }
  | .seating => { wash with lance := match l.current with
      | some k => .seat k
      | none => l.orders.lance }
  | .waitResource => { wash with drain := notFill }
  | .running => match d.utility? with
    | some u => { wash with supply := some u }
    | none => { wash with drain := false }
  | .draining => wash
  | .starved => wash
  | .scanning => { wash with probe := true }
  | .filling => { wash with drain := false, fill := true }
  | .held => { wash with drain := notFill }
  | .suspended => { wash with drain := notFill }

/-- Orders that changed are sent at once by a free port, and otherwise when it is free (R186). -/
def Port.change (p : Port) (o : Orders) : Port :=
  match p.sending with
  | none => { p with sending := some o }
  | some _ => { p with due := true }

/-- A lane record written as the lane stands in its state, or enters one: its bay orders follow the state, and a change of them
goes to the bay port as one event with the change of state (R92, log 7). -/
def State.setLane (s : State) (b : Bay) (l : Lane) : State :=
  let o := ordersOf (s.entry l.index) l
  { s with lanes := s.lanes.set b { l with orders := o },
           ports := if o = (s.lane b).orders then s.ports else s.ports.set b ((s.port b).change o) }

/-- A lane record written between two lane states, its step ended and the next not begun: the orders stay those of the state the
lane leaves, and nothing goes to the bay port, until the state it enters gives the next orders (R53, R59, R73, R92). -/
def State.amendLane (s : State) (b : Bay) (l : Lane) : State :=
  { s with lanes := s.lanes.set b { l with orders := (s.lane b).orders } }

/-- The lane with its lance order parked (R92). -/
def Lane.park (l : Lane) : Lane := { l with orders := { l.orders with lance := .parked } }

/-- The lane is seated in the compartment it serves (R72). -/
def State.lanceOk (s : State) (b : Bay) : Bool :=
  (s.lane b).current.isSome && (s.lane b).seated == (s.lane b).current

/-- A lane that has ended its service, its return state and starve release discarded (R81, R82, R85, R138). -/
def Lane.toIdle (l : Lane) : Lane :=
  { l with st := .idle, current := none, service := none, ret := none, starveRelease := false }

/-! ## Hold causes (R86) -/

/-- Whether a cause is present. -/
def Holds.has (h : Holds) : Cause → Bool
  | .host => h.host
  | .lockout => h.lockout
  | .stop => h.stop
/-- A cause set present or absent. -/
def Holds.put (h : Holds) (c : Cause) (v : Bool) : Holds :=
  match c with
  | .host => { h with host := v }
  | .lockout => { h with lockout := v }
  | .stop => { h with stop := v }
/-- No cause is present. -/
def Holds.isEmpty (h : Holds) : Bool := !h.host && !h.lockout && !h.stop

/-! ## Pins, maps and scans (R49, R95, R98) -/

/-- Some lane holds a pin on the entry (R49). -/
def StepStore.pinned (t : StepStore) (i : StepIx) : Bool := allBays.any fun b => t.pins[b] == some i
/-- A lane's pin set on an entry, or removed (R49, R50). -/
def State.setPin (s : State) (b : Bay) (i : Option StepIx) : State := { s with store := { s.store with pins := s.store.pins.set b i } }
/-- A lane's scan record (R98). -/
def State.scan (s : State) (b : Bay) : Option Scan := s.scans[b]
/-- A lane's scan record replaced. -/
def State.setScan (s : State) (b : Bay) (x : Option Scan) : State := { s with scans := s.scans.set b x }
/-- A lane's residue map (R95). -/
def State.residue (s : State) (b : Bay) : ResidueMap := s.maps[b]
/-- A lane's residue map replaced. -/
def State.setResidue (s : State) (b : Bay) (m : ResidueMap) : State := { s with maps := s.maps.set b m }
/-- A zone's place in a map: ring by ring. -/
def zoneIx (z : Zone) : Fin 192 := ⟨z.ring.val * 12 + z.sector.val, by have := z.ring.isLt; have := z.sector.isLt; omega⟩
/-- The numbers from `a` to `b`, both ends included, upward. -/
def upTo (a b : Nat) : List Nat := (List.range (b + 1 - a)).map (a + ·)
/-- The rings of a window, upward. -/
def Window.rings (w : Window) : List (Fin 16) :=
  (upTo w.firstRing.val w.lastRing.val).filterMap fun n => if h : n < 16 then some ⟨n, h⟩ else none
/-- The sectors of a window, upward. -/
def Window.sectors (w : Window) : List (Fin 12) :=
  (upTo w.firstSector.val w.lastSector.val).filterMap fun n => if h : n < 12 then some ⟨n, h⟩ else none
/-- The zones of a window in a scan order (R97): the inner sweep always runs upward. -/
def scanZones (w : Window) : ScanOrder → List Zone
  | .ringUp => w.rings.flatMap fun r => w.sectors.map fun c => { ring := r, sector := c }
  | .ringDown => w.rings.reverse.flatMap fun r => w.sectors.map fun c => { ring := r, sector := c }
  | .sectorUp => w.sectors.flatMap fun c => w.rings.map fun r => { ring := r, sector := c }
  | .sectorDown => w.sectors.reverse.flatMap fun c => w.rings.map fun r => { ring := r, sector := c }
/-- The first zone of a window in a scan order (R99). -/
def firstZone (w : Window) : ScanOrder → Zone
  | .ringUp => { ring := w.firstRing, sector := w.firstSector }
  | .ringDown => { ring := w.lastRing, sector := w.firstSector }
  | .sectorUp => { ring := w.firstRing, sector := w.firstSector }
  | .sectorDown => { ring := w.firstRing, sector := w.lastSector }

/-! ## Compartment records and visits (R1, R2) -/

/-- A bay's visit (R1). -/
def State.visit (s : State) (b : Bay) : Option Visit := s.visits[b]
/-- A bay's visit entry replaced. -/
def State.setVisit (s : State) (b : Bay) (v : Option Visit) : State := { s with visits := s.visits.set b v }
/-- The record names this compartment. -/
def Comp.isAt (r : Comp) (b : Bay) (k : Nat) : Bool := r.bay == b && r.index == k
/-- A compartment's record. -/
def State.record? (s : State) (b : Bay) (k : Nat) : Option Comp := s.records.find? fun r => r.isAt b k
/-- The pool's allocated records replaced. -/
def State.setRecords (s : State) (rs : List Comp) : State := { s with records := rs }
/-- A compartment's record changed. -/
def State.modRecord (s : State) (b : Bay) (k : Nat) (f : Comp → Comp) : State :=
  s.setRecords (s.records.map fun r => if r.isAt b k then f r else r)
/-- The number of FREE records (R2). -/
def State.freeRecords (s : State) : Nat := Config.records - s.records.length
/-- The record of the compartment a lane serves. -/
def State.served? (s : State) (b : Bay) : Option Comp :=
  match (s.lane b).current with
  | some k => s.record? b k
  | none => none
/-- The record of the compartment a lane serves changed. -/
def State.modServed (s : State) (b : Bay) (f : Comp → Comp) : State :=
  match (s.lane b).current with
  | some k => s.modRecord b k f
  | none => s
/-- The index of the compartment a lane serves, as its events name it. -/
def State.servedIndex (s : State) (b : Bay) : Nat := (s.lane b).current.getD 0
/-- A record just allocated (R3). -/
def Comp.fresh (b : Bay) (k : Nat) (prior : Option Cargo) : Comp :=
  { bay := b, index := k, prior := prior, st := .admitted, program := none, dirty := none, achieved := 0, verdict := none,
    cert := none, order := none, filled := 0, outcome := none, water := 0, chemical := 0, steam := 0, dryer := 0 }
/-- A record's program class, where it holds a program. -/
def Comp.programClass (r : Comp) : Nat := match r.program with
  | some p => p.cls
  | none => 0

/-! ## Carry-over table (R26, R27) -/

/-- A prior class's row; the seventeenth is UNKNOWN's (R26). -/
def rowIx (p : Option Cargo) : Fin 17 := match p with
  | some c => ⟨c.val, by omega⟩
  | none => 16
/-- A lookup (R27). -/
def State.carryEntry (s : State) (p : Option Cargo) (c : Cargo) : CarryEntry := (s.carry[rowIx p])[c]

/-! ## Utilities (R116 to R121) -/

/-- A utility's record. -/
def State.util (s : State) (u : UtilId) : Util := s.utils[utilIx u]
/-- A utility's record replaced. -/
def State.setUtil (s : State) (u : UtilId) (x : Util) : State := { s with utils := s.utils.set (utilIx u) x }
/-- In service: neither flag set (6.2). -/
def Util.inService (x : Util) : Bool := !x.offline && !x.fault
/-- The lane has a grant or a claim here. -/
def Util.holds (x : Util) (b : Bay) : Bool := x.grants.any (·.lane == b) || x.claims.any (·.lane == b)
/-- A release or a withdrawal (R121): the lane's grant and claim leave; with neither grant nor claim left the counter is 0. -/
def Util.drop (x : Util) (b : Bay) : Util :=
  let grants := x.grants.filter fun c => !(c.lane == b)
  let claims := x.claims.filter fun c => !(c.lane == b)
  { x with grants := grants, claims := claims, counter := if grants.isEmpty && claims.isEmpty then 0 else x.counter }
/-- The utility a lane holds a grant or claim on, if any. -/
def State.holding (s : State) (b : Bay) : Option UtilId := allUtils.find? fun u => (s.util u).holds b
/-- Whether a claim sorts ahead of another (R119). -/
def Claim.ahead (a b : Claim) : Bool := (a.urgent && !b.urgent) || (a.urgent == b.urgent && a.arrival < b.arrival)
/-- A claim placed in a claim queue (R119): behind every claim it does not sort ahead of. -/
def insertClaim (c : Claim) : List Claim → List Claim
  | [] => [c]
  | x :: xs => if c.ahead x then c :: x :: xs else x :: insertClaim c xs
/-- A fresh claim (R119): the visit's priority and the next arrival number. -/
def Util.place (x : Util) (b : Bay) (urgent : Bool) : Util :=
  { x with claims := insertClaim { lane := b, urgent := urgent, arrival := x.counter, kept := false } x.claims,
           counter := satAdd Config.max32 x.counter 1 }
/-- The priority a lane's claims carry (R1, R119). -/
def State.urgent (s : State) (b : Bay) : Bool := match s.visit b with
  | some v => v.urgent
  | none => false
/-- A claim placed here now would be granted in the same event (R132). -/
def Util.grantsAtOnce (x : Util) : Bool := x.inService && x.grants.length < x.capacity && x.claims.isEmpty

/-- The fill line a fresh fill claim goes to (R132); `none` when neither line carries the cargo. -/
def State.chooseLine (s : State) (c : Cargo) : Option UtilId :=
  let a := s.util .fillA
  let b := s.util .fillB
  match a.cargo == some c, b.cargo == some c with
  | false, false => none
  | true, false => some .fillA
  | false, true => some .fillB
  | true, true =>
    if a.grantsAtOnce then some .fillA
    else if b.grantsAtOnce then some .fillB
    else if a.inService && !b.inService then some .fillA
    else if b.inService && !a.inService then some .fillB
    else if b.claims.length < a.claims.length then some .fillB
    else some .fillA

/-- A fill line carries the cargo, in service or not (R32, R126). -/
def State.lineCarries (s : State) (c : Cargo) : Bool :=
  (s.util .fillA).cargo == some c || (s.util .fillB).cargo == some c

/-- The fill-start check (R32): the cause of the first condition that fails. -/
def State.fillStartCause (s : State) (r : Comp) (o : FillOrder) : Option FillCause :=
  if !s.lineCarries o.cargo then some .noLine
  else match s.carryEntry r.prior o.cargo with
    | .forbidden => some .forbidden
    | .required c => if r.achieved < c then some .classShort else none

/-! ## Certificate unit (R144 to R151) -/

/-- The certificate unit replaced. -/
def State.setCerts (s : State) (u : CertUnit) : State := { s with certs := u }

/-- The backlog judged (R151): BACKLOG is raised when the state changes. -/
def State.judgeBacklog (s : State) : State :=
  let now : Bool := s.certs.highWater ≤ s.certs.log.length
  if now = s.certs.backlog then s
  else (s.setCerts { s.certs with backlog := now }).raiseYard (.backlog now s.certs.log.length)

/-- Audit hold entered (R147): the counter 0 and AUDIT_HOLD raised with its cause and certificate number. -/
def State.enterAuditHold (s : State) (spent : Bool) (number : Nat) : State :=
  (s.setCerts { s.certs with hold := true, counter := 0 }).raiseYard (.auditHold spent number)

/-- The certificate an issue fills (R142). -/
def State.fillCert (s : State) (number : Nat) (r : Comp) (referral : Bool) : Cert :=
  { number := number, fleet := match s.visit r.bay with
      | some v => v.fleet
      | none => 0
    bay := r.bay, index := r.index, prior := r.prior, programClass := r.programClass, achieved := r.achieved,
    verdictIndex := if referral then none else r.verdict.map (·.index),
    maxGrade := match r.verdict with
      | some v => v.maxGrade
      | none => 0
    water := r.water, chemical := r.chemical, steam := r.steam, dryer := r.dryer, issueTime := s.certs.clock, referral := referral }

/-- A FILL entry appended at the tail of a lane's queue (R64). -/
def State.appendEntry (s : State) (b : Bay) (e : QEntry) : State :=
  s.setLane b { s.lane b with queue := (s.lane b).queue ++ [e] }

/-- Items 1 and 2 of an issue (R145): the next number moves on and the certificate joins the log. -/
def State.logCert (s : State) (n : Nat) (r : Comp) (referral : Bool) : State :=
  s.setCerts { s.certs with next := if n = Config.max32 then none else some (n + 1), log := s.certs.log ++ [s.fillCert n r referral] }

/-- Item 3 of an issue (R145, R15): the record CERTIFIED with its number, and a FILL entry queued for a held order. -/
def State.markCertified (s : State) (n : Nat) (r : Comp) : State :=
  let t := s.modRecord r.bay r.index fun x => { x with st := .certified, cert := some n }
  if r.order.isSome then t.appendEntry r.bay { index := r.index, kind := .fill } else t

/-- Item 6 of an issue and the closing case of NUMBERS_SPENT (R145, R147). -/
def State.countIssue (s : State) (n : Nat) : State :=
  let count := satAdd Config.max8 s.certs.counter 1
  let t := s.setCerts { s.certs with counter := count }
  if s.certs.hold then t
  else if 0 < s.certs.period ∧ s.certs.period ≤ count then t.enterAuditHold false n
  else if n = Config.max32 then t.enterAuditHold true n
  else t

/-- The issue of certificate `n` to the record `r` (R145). -/
def State.issueTo (s : State) (n : Nat) (r : Comp) (referral : Bool) : State :=
  ((((s.logCert n r referral).markCertified n r).raiseBay r.bay (.certIssued r.index n r.achieved)).judgeBacklog).countIssue n

/-- The unit can issue: no audit hold, room in the log, a number left (R144). -/
def State.canIssue (s : State) : Bool :=
  !s.certs.hold && s.certs.log.length < Config.logCapacity && s.certs.next.isSome

/-- Withholding (R144): the record becomes AWAIT_CERT at the tail of the list; numbers spent outside audit hold enter it. The
number reported is that of the last certificate issued (log 16). -/
def State.withhold (s : State) (b : Bay) (k : Nat) (referral : Bool) : State :=
  let s1 := s.setCerts { s.certs with withheld := s.certs.withheld ++ [(⟨b, k, referral⟩ : Withheld)] }
  let s2 := s1.modRecord b k fun x => { x with st := .awaitCert }
  if s2.certs.next.isNone ∧ s2.certs.hold = false then s2.enterAuditHold true Config.max32 else s2

end Sys2Proof.Machine
end

