-- ==== Sys2Proof/Machine/Cascade.lean ====
section
/-! DEFINITION. Machine/Cascade.lean: what one event brings about inside the part, to its end, within the event.

The rules have an event's consequences happen "at once" or "in the same event" (R67, R74, R120, R121, R145, R160). They are written
here as tasks. `act` carries out one task on the state and answers the tasks that follow from it, which are carried out before
any task that was waiting: depth first, in the order the rules list them (log 14). -/

namespace Sys2Proof.Machine

/-- Why a fill ended (R134). -/
inductive FillEnd where
  | complete
  | stall
  | highLevel
  | lanceLost
  | cancelFill
  | noLine
  deriving DecidableEq, Repr

/-- Fill outcome of an end (R134). -/
def FillEnd.outcome : FillEnd → FillOutcome
  | .complete => .complete
  | .stall => .cancelled
  | .highLevel => .highLevel
  | .lanceLost => .lanceLost
  | .cancelFill => .cancelled
  | .noLine => .cancelled
/-- Cause in FILL_DONE (R134). -/
def FillEnd.cause : FillEnd → Option FillCause
  | .complete => none
  | .stall => some .noFlow
  | .highLevel => none
  | .lanceLost => none
  | .cancelFill => some .cancelFill
  | .noLine => some .noLine

/-- A consequence waiting to be carried out. -/
inductive Task where
  /-- the arbiter judges a utility's queue (R120) -/
  | judge (u : UtilId)
  /-- a lane takes a grant (R74, R90) -/
  | granted (b : Bay)
  /-- UTILITY_BACK is raised with the grants counted (R125) -/
  | back (u : UtilId)
  /-- an IDLE lane judges its queue (R67) -/
  | idle (b : Bay)
  /-- a lane fetches at its current index (R73) -/
  | fetch (b : Bay)
  /-- a lane in WAIT_RESOURCE places a fresh claim (R119) -/
  | claim (b : Bay) (u : UtilId)
  /-- a lane enters WAIT_RESOURCE for a fill (R132, R133) -/
  | fillWait (b : Bay)
  /-- a program is aborted, item 1 of R82 -/
  | abort (b : Bay) (r : Reason)
  /-- items 2 to 5 of R82 -/
  | aborted (b : Bay) (r : Reason)
  /-- a fill ends, item 1 of R134 -/
  | endFill (b : Bay) (e : FillEnd)
  /-- items 2 to 5 of R134 -/
  | fillEnded (b : Bay) (e : FillEnd)
  /-- a FLUSH, BLOW or SOAK step ends, item 1 of R78 -/
  | stepEnd (b : Bay)
  /-- items 2 and 3 of R78 and what follows them -/
  | stepEnded (b : Bay)
  /-- a lane proceeds from its finished step (R53) -/
  | proceed (b : Bay)
  /-- a program ends at an end mark (R81) -/
  | programEnd (b : Bay)
  /-- a lane clears its service and returns to IDLE (R81, R106, R107) -/
  | toIdle (b : Bay)
  /-- a record is handed to the certificate unit (R144) -/
  | certify (b : Bay) (k : Nat) (referral : Bool)
  /-- the withheld list is drained (R149, R150) -/
  | drain
  /-- a hold cause is added to a lane (R87) -/
  | hold (b : Bay) (c : Cause)
  /-- a hold cause is removed from a lane (R89) -/
  | unhold (b : Bay) (c : Cause)
  /-- MODE_CHANGE is raised (R177) -/
  | modeChange (left entered : Mode) (cause : ModeCause)
  deriving DecidableEq, Repr

/-- A lane's grant released or its claim withdrawn (R121); the utility's queue is then judged. -/
def State.release (s : State) (b : Bay) : State × List Task :=
  match s.holding b with
  | none => (s, [])
  | some u => (s.setUtil u ((s.util u).drop b), [.judge u])

/-- The arbiter's judgement (R120): the head claim is granted while the utility is in service with room, and handed to its
lane, before the next head is judged. -/
def actJudge (u : UtilId) (s : State) : State × List Task :=
  let x := s.util u
  match x.claims with
  | [] => (s, [])
  | c :: rest =>
    if x.inService ∧ x.grants.length < x.capacity then
      (s.setUtil u { x with claims := rest, grants := x.grants ++ [{ c with kept := false }],
                            returning := x.returning.map (satAdd Config.bays · 1) },
       [.granted c.lane, .judge u])
    else (s, [])

/-- A grant taken (R74, R90, R137): after the lance check the lane enters RUNNING or FILLING; failing it, LANCE_LOST. -/
def actGranted (b : Bay) (s : State) : State × List Task :=
  let l := s.lane b
  match l.service with
  | some .fill => if s.lanceOk b then (s.setLane b { l with st := .filling }, []) else (s, [.endFill b .lanceLost])
  | _ => if s.lanceOk b then (s.setLane b { l with st := .running }, []) else (s, [.abort b .lanceLost])

/-- UTILITY_BACK (R125), with the number of grants made at the return, 0 to 6 (log 9). -/
def actBack (u : UtilId) (s : State) : State × List Task :=
  let x := s.util u
  let n := match x.returning with
    | some n => n
    | none => 0
  ((s.setUtil u { x with returning := none }).raiseYard (.utilityBack u n), [])

/-- A lane begins seating (R70), its other fields as given. -/
def State.beginSeating (s : State) (b : Bay) (l : Lane) : State := s.setLane b { l with st := .seating, timer := 0 }

/-- A WASH entry taken (R68, R10). -/
def State.takeWash (s : State) (b : Bay) (k : Nat) (rest : List QEntry) : State × List Task :=
  let l := s.lane b
  let head := match s.record? b k with
    | some r => match r.program with
      | some p => p.head
      | none => l.index
    | none => l.index
  let s1 := s.modRecord b k fun r =>
    { r with st := .washing, verdict := none, water := 0, chemical := 0, steam := 0, dryer := 0 }
  let s2 := s1.setResidue b ResidueMap.clear
  let l' := { l with queue := rest, current := some k, service := some .wash, index := head, fetched := 0, delivered := 0,
                     noFlow := 0, cold := 0, cap := 7, inspected := false, anyLitres := false }
  if l.seated = some k then (s2.setLane b l', [.fetch b]) else (s2.beginSeating b l', [])

/-- A FILL entry taken (R69, R20, R32, R33): the fill-start check, then FILLING or FILL_REFUSED. -/
def State.takeFill (s : State) (b : Bay) (k : Nat) (rest : List QEntry) : State × List Task :=
  let l := s.lane b
  match s.record? b k with
  | none => (s.setLane b { l with queue := rest }, [.idle b])
  | some r => match r.order with
    | none => (s.setLane b { l with queue := rest }, [.idle b])
    | some o => match s.fillStartCause r o with
      | some cause =>
        (((s.modRecord b k fun r => { r with order := none }).setLane b { l with queue := rest }).raiseBay b
          (.fillRefused k o.cargo cause), [.idle b])
      | none =>
        let s1 := s.modRecord b k fun r => { r with st := .filling, filled := 0 }
        let l' := { l with queue := rest, current := some k, service := some .fill, noFlow := 0 }
        if l.seated = some k then (s1.setLane b l', [.fillWait b]) else (s1.beginSeating b l', [])

/-- An IDLE lane's judgement of its queue (R67). -/
def actIdle (b : Bay) (s : State) : State × List Task :=
  let l := s.lane b
  if l.st = .idle ∧ s.mode = .run ∧ l.holds.isEmpty = true then
    match l.queue with
    | [] => (s, [])
    | e :: rest => match e.kind with
      | .wash => if s.certs.hold then (s, []) else s.takeWash b e.index rest
      | .fill => s.takeFill b e.index rest
  else (s, [])

/-- A fetch (R73): the step limit, the pin, the dirty reason's removal at a first fetch, validity, then the step by its kind. A step
that is not begun (R43, R72) leaves the lane's state and its orders as they are until the abort. -/
def actFetch (b : Bay) (s : State) : State × List Task :=
  let l := s.lane b
  if Config.stepLimit ≤ l.fetched then (s, [.abort b .stepLimit])
  else
    let d := s.entry l.index
    let s1 := s.setPin b (some l.index)
    let s2 := if l.fetched = 0 then s1.modServed b fun r => { r with dirty := none } else s1
    let l1 := { l with fetched := l.fetched + 1 }
    if d.valid = false then (s2.amendLane b l1, [.abort b .badStep])
    else
      let l2 := { l1 with delivered := 0, noFlow := 0, cold := 0 }
      match d with
      | .flush u .. => (s2.setLane b { l2 with st := .waitResource }, [.claim b u.util])
      | .blow u .. => (s2.setLane b { l2 with st := .waitResource }, [.claim b u.util])
      | .soak .. =>
        if s.lanceOk b then (s2.setLane b { l2 with st := .running }, []) else (s2.amendLane b l2, [.abort b .lanceLost])
      | .inspect w o h _ _ _ =>
        if s.lanceOk b then
          ((s2.setScan b (some { pointer := firstZone w o, written := 0, window := w, order := o, threshold := h })).setLane b
            { l2 with st := .scanning, timer := 0 }, [])
        else (s2.amendLane b l2, [.abort b .lanceLost])
      | .blank => (s2.amendLane b l1, [.abort b .badStep])

/-- A fresh claim placed (R119), judged at once. -/
def actClaim (b : Bay) (u : UtilId) (s : State) : State × List Task :=
  (s.setUtil u ((s.util u).place b (s.urgent b)), [.judge u])

/-- A fill enters WAIT_RESOURCE (R132): the drain valve closes and a line is chosen; with no line the fill ends (R133). -/
def actFillWait (b : Bay) (s : State) : State × List Task :=
  let s1 := s.setLane b { s.lane b with st := .waitResource }
  match s.served? b with
  | none => (s1, [.endFill b .noLine])
  | some r => match r.order with
    | none => (s1, [.endFill b .noLine])
    | some o => match s1.chooseLine o.cargo with
      | none => (s1, [.endFill b .noLine])
      | some u => (s1, [.claim b u])

/-- Abort, item 1 (R82). -/
def actAbort (b : Bay) (r : Reason) (s : State) : State × List Task :=
  let x := s.release b
  (x.1, x.2 ++ [.aborted b r])

/-- A record made DIRTY by an abort (R12). -/
def Comp.abortedFor (r : Comp) (reason : Reason) (anyLitres : Bool) : Comp :=
  { r with st := .dirty, dirty := some reason, achieved := 0, prior := if anyLitres then none else r.prior }

/-- Abort, items 2 to 5 (R82). A scan record becomes absent with the pin (R102). -/
def actAborted (b : Bay) (reason : Reason) (s : State) : State × List Task :=
  let l := s.lane b
  let s1 := (s.setPin b none).setScan b none
  let s2 := s1.modServed b fun r => r.abortedFor reason l.anyLitres
  let s3 := s2.setLane b l.toIdle
  (s3.raiseBay b (.fault reason (s.servedIndex b) l.index), [.idle b])

/-- End of a fill, item 1 (R134). -/
def actEndFill (b : Bay) (e : FillEnd) (s : State) : State × List Task :=
  let x := s.release b
  (x.1, x.2 ++ [.fillEnded b e])

/-- The event a fill's end raises before FILL_DONE (R134, R136). FAULT's current index is the lane's as it stands, the model's reading of R157
(log 31): after a WASH take that executed no step it is that program's head. -/
def State.raiseFillExtra (s : State) (b : Bay) (e : FillEnd) (k : Nat) (r : Comp) : State :=
  match e with
  | .stall => s.raiseBay b (.fault .noFlow k (s.lane b).index)
  | .lanceLost => s.raiseBay b (.fault .lanceLost k (s.lane b).index)
  | .highLevel => s.raiseBay b (.overfill k r.filled (match r.order with
      | some o => o.target
      | none => 0))
  | .complete => s
  | .cancelFill => s
  | .noLine => s

/-- End of a fill, items 2 to 5 (R134). -/
def actFillEnded (b : Bay) (e : FillEnd) (s : State) : State × List Task :=
  let l := s.lane b
  let s1 := s.modServed b fun r => { r with st := .filled, outcome := some e.outcome }
  let s2 := match s.served? b with
    | none => s1
    | some r =>
      (s1.raiseFillExtra b e r.index r).raiseBay b (.fillDone r.index (match r.order with
        | some o => o.cargo
        | none => 0) r.filled e.outcome e.cause)
  (s2.setLane b l.toIdle, [.idle b])

/-- Step end, item 1 (R78). -/
def actStepEnd (b : Bay) (s : State) : State × List Task :=
  let x := s.release b
  (x.1, x.2 ++ [.stepEnded b])

/-- Step end, items 2 and 3 (R78): the pin, STEP_DONE, then DRAINING after the lance check, or the proceed. -/
def actStepEnded (b : Bay) (s : State) : State × List Task :=
  let l := s.lane b
  let d := s.stepOf b
  let s1 := (s.setPin b none).raiseBay b (.stepDone (s.servedIndex b) l.index d.kind l.delivered)
  if d.drainAfter then
    if s.lanceOk b then (s1.setLane b { l with st := .draining, timer := 0 }, []) else (s1, [.abort b .lanceLost])
  else (s1, [.proceed b])

/-- The free value's counter advanced (log 10). -/
def State.countFree (s : State) : State := { s with freeCount := s.freeCount + 1 }

/-- The index a lane goes to from a finished step: its entry's next field, and for an entry made BLANK since, which has none, the
next free value (log 10). -/
def State.nextOf (s : State) (d : Descriptor) : StepIx × State :=
  match d.next? with
  | some n => (n, s)
  | none => (Config.freeNext s.freeCount, s.countFree)

/-- The lane goes on to the finished step's next field (R53 item 3, R57). The entry there is not read before its fetch (R59). -/
def State.goNext (s : State) (b : Bay) (l : Lane) : State :=
  let x := s.nextOf (s.entry l.index)
  x.2.amendLane b { l with index := x.1 }

/-- Whether a served record's program is BOUNDED at this index (R53 item 2). -/
def State.boundedAt (s : State) (b : Bay) (i : StepIx) : Bool :=
  match s.served? b with
  | none => false
  | some r => match r.program with
    | none => false
    | some p => p.chain == .bounded i

/-- The proceed (R53). -/
def actProceed (b : Bay) (s : State) : State × List Task :=
  let l := s.lane b
  if (s.entry l.index).endMark then (s, [.programEnd b])
  else if s.boundedAt b l.index then (s.setLane b { l with st := .starved, timer := 0 }, [])
  else (s.goNext b l, [.fetch b])

/-- The verdict record of a program that ends without an inspection (R13). -/
def VerdictRec.uninspected : VerdictRec := { maxGrade := 0, overCount := 0, outcome := none, index := 0 }

/-- A program's end (R81). -/
def actProgramEnd (b : Bay) (s : State) : State × List Task :=
  let l := s.lane b
  if l.inspected then
    match s.served? b with
    | none => (s, [.toIdle b])
    | some r =>
      let achieved := min r.programClass l.cap
      ((s.modServed b fun r => { r with achieved := achieved }).raiseBay b (.programEnd r.index achieved),
       [.certify b r.index false, .toIdle b])
  else
    ((s.modServed b fun r => { r with st := .referred, achieved := 0, verdict := some .uninspected }).raiseBay b
      (.referral (s.servedIndex b)), [.toIdle b])

/-- A lane returns to IDLE and judges its queue (R81). -/
def actToIdle (b : Bay) (s : State) : State × List Task := (s.setLane b (s.lane b).toIdle, [.idle b])

/-- A lane whose queue was empty judges the entry appended to it by an issue (R64, log 15). -/
def State.afterIssue (before : State) (b : Bay) : List Task := if (before.lane b).queue.isEmpty then [.idle b] else []

/-- A record handed to the certificate unit (R144). -/
def actCertify (b : Bay) (k : Nat) (referral : Bool) (s : State) : State × List Task :=
  match s.record? b k with
  | none => (s, [])
  | some r => match s.certs.next with
    | none => (s.withhold b k referral, [])
    | some n => if s.canIssue then (s.issueTo n r referral, s.afterIssue b) else (s.withhold b k referral, [])

/-- The drain (R149): the head of the withheld list is issued, its lane judges, and the drain goes on. -/
def actDrain (s : State) : State × List Task :=
  match s.certs.withheld, s.certs.next with
  | w :: rest, some n =>
    if s.canIssue then
      let s1 := s.setCerts { s.certs with withheld := rest }
      match s1.record? w.bay w.index with
      | none => (s1, [.drain])
      | some r => (s1.issueTo n r w.referral, s1.afterIssue w.bay ++ [.drain])
    else (s, [])
  | _, _ => (s, [])

/-- A hold cause added (R86, R87). -/
def actHold (b : Bay) (c : Cause) (s : State) : State × List Task :=
  let l := s.lane b
  if l.holds.has c then (s, [])
  else
    let l' := { l with holds := l.holds.put c true }
    if l.holds.isEmpty = true ∧ l.st ≠ .idle then (s.setLane b { l' with ret := some l.st, st := .held }).release b
    else (s.setLane b l', [])

/-- A lane leaves HELD for a state that needs the lance (R72, R89): after the lance check the state `st`, with the stage timer the
state begins with; failing it, LANCE_LOST with the state not entered. -/
def State.resumeChecked (s : State) (b : Bay) (l : Lane) (st : LaneState) (timer : Nat) : State × List Task :=
  if s.lanceOk b then (s.setLane b { l with st := st, ret := none, timer := timer }, [])
  else (s.setLane b l, [.abort b .lanceLost])

/-- A lane leaves HELD by its return state (R89); `l` is its record with the cause removed. From STARVED with its starve release set
it goes to the finished entry's next field as that entry stands now, at the end of the hold (R57, R89, log 30). -/
def State.resume (s : State) (b : Bay) (l : Lane) : State × List Task :=
  match l.ret with
  | some .seating =>
    let s1 := s.setLane b { l with st := .seating, ret := none, timer := 0 }
    if l.seated = l.current then (s1, [if l.service = some .fill then .fillWait b else .fetch b]) else (s1, [])
  | some .draining => s.resumeChecked b l .draining 0
  | some .scanning => s.resumeChecked b l .scanning 0
  | some .starved =>
    if l.starveRelease then (s.goNext b { l with ret := none, starveRelease := false }, [.fetch b])
    else (s.setLane b { l with st := .starved, ret := none, timer := 0 }, [])
  | some .idle => (s.setLane b l, [])
  | some .held => (s.setLane b l, [])
  | none => (s.setLane b l, [])
  | some .running | some .waitResource | some .suspended | some .filling =>
    if l.service = some .fill then (s.setLane b { l with ret := none }, [.fillWait b])
    else match (s.entry l.index).utility? with
      | some u => (s.setLane b { l with st := .waitResource, ret := none }, [.claim b u.util])
      | none => s.resumeChecked b l .running l.timer

/-- A hold cause removed (R86, R89, R67). -/
def actUnhold (b : Bay) (c : Cause) (s : State) : State × List Task :=
  let l := s.lane b
  if l.holds.has c then
    let l' := { l with holds := l.holds.put c false }
    if l'.holds.isEmpty then
      match l.st with
      | .held => s.resume b l'
      | .idle => (s.setLane b l', [.idle b])
      | _ => (s.setLane b l', [])
    else (s.setLane b l', [])
  else (s, [])

/-- One task carried out. -/
def act (t : Task) (s : State) : State × List Task :=
  match t with
  | .judge u => actJudge u s
  | .granted b => actGranted b s
  | .back u => actBack u s
  | .idle b => actIdle b s
  | .fetch b => actFetch b s
  | .claim b u => actClaim b u s
  | .fillWait b => actFillWait b s
  | .abort b r => actAbort b r s
  | .aborted b r => actAborted b r s
  | .endFill b e => actEndFill b e s
  | .fillEnded b e => actFillEnded b e s
  | .stepEnd b => actStepEnd b s
  | .stepEnded b => actStepEnded b s
  | .proceed b => actProceed b s
  | .programEnd b => actProgramEnd b s
  | .toIdle b => actToIdle b s
  | .certify b k referral => actCertify b k referral s
  | .drain => actDrain s
  | .hold b c => actHold b c s
  | .unhold b c => actUnhold b c s
  | .modeChange l e c => (s.raiseYard (.modeChange l e c), [])

/-- Tasks carried out, at most `fuel` of them. -/
def settleFor : Nat → List Task → State → State
  | _, [], s => s
  | 0, _ :: _, s => s
  | fuel + 1, t :: ts, s =>
    let x := act t s
    settleFor fuel (x.2 ++ ts) x.1

/-- What a task can cost, in tasks. -/
def Task.weight : Task → Nat
  | .judge _ => 1
  | .granted _ => 5
  | .back _ => 1
  | .idle _ => 1
  | .fetch _ => 9
  | .claim _ _ => 8
  | .fillWait _ => 9
  | .abort _ _ => 4
  | .aborted _ _ => 2
  | .endFill _ _ => 4
  | .fillEnded _ _ => 2
  | .stepEnd _ => 28
  | .stepEnded _ => 26
  | .proceed _ => 25
  | .programEnd _ => 24
  | .toIdle _ => 2
  | .certify _ _ _ => 13
  | .drain => 1
  | .hold _ _ => 2
  | .unhold _ _ => 10
  | .modeChange _ _ _ => 1

/-- How many tasks can still come about: every fetch follows a queue entry taken, every grant a claim, every issue of a drain a
withheld record, and each of those leaves its list. -/
def State.potential (s : State) : Nat :=
  12 * s.certs.withheld.length + 10 * (s.lanes.toList.map fun l => l.queue.length).sum +
    6 * (s.utils.toList.map fun x => x.claims.length).sum

/-- Enough fuel to carry out the tasks and all that follow from them. -/
def State.fuel (s : State) (ts : List Task) : Nat := s.potential + (ts.map Task.weight).sum

/-- Tasks and everything that follows from them carried out to the end. -/
def State.settle (s : State) (ts : List Task) : State := settleFor (s.fuel ts) ts s

end Sys2Proof.Machine
end

