-- ==== Sys2Proof/Machine/Lanes.lean ====
section
/-! DEFINITION. Machine/Lanes.lean: what a lane makes of bay reports and signals, and the requests a lane answers (R66 to R91, R93,
R100 to R107). -/

namespace Sys2Proof.Machine

/-! ## Bay reports (R66, R75 to R77, R91, R101, R135) -/

/-- A bay report's values (R66). -/
structure Report where
  flow : Nat
  fill : Nat
  temp : Nat
  deriving DecidableEq, Repr

/-- What a report's count brings about, by the judgements of the lane state it is taken in. -/
inductive ReportEnd where
  | goesOn
  | seatTimeout
  | noFlow
  | coldSupply
  | drainStuck
  | underrun
  | scanStall
  | fillStall
  | stepEnd
  | fillComplete
  deriving DecidableEq, Repr

/-- The report is below a step's minimum temperature (R41). -/
def Report.coldFor (r : Report) (minTemp : Option Nat) : Bool := match minTemp with
  | some t => r.temp < t
  | none => false

/-- Flush litres added to a record's totals (R4, R75). -/
def Comp.addLitres (x : Comp) (u : WashUtil) (n : Nat) : Comp :=
  match u with
  | .hotWater => { x with water := satAdd Config.max16 x.water n }
  | .caustic | .acid => { x with chemical := satAdd Config.max16 x.chemical n }
  | .steam | .dryer => x

/-- A counted blow period added to a record's totals (R4, R76). -/
def Comp.addPeriod (x : Comp) (u : WashUtil) : Comp :=
  match u with
  | .steam => { x with steam := satAdd Config.max16 x.steam 1 }
  | .dryer => { x with dryer := satAdd Config.max16 x.dryer 1 }
  | .hotWater | .caustic | .acid => x

/-- A run of reports: one more, or 0 (R75, R91). -/
def runOn (more : Bool) (n : Nat) : Nat := if more then satAdd Config.max8 n 1 else 0

/-- A report counted in RUNNING (R75 items 1 and 2, R76). `l` is the lane with its last temperature set. -/
def State.countRunning (s : State) (b : Bay) (l : Lane) (r : Report) : State :=
  match s.entry l.index with
  | .flush u _ minTemp _ _ _ _ =>
    let l1 := { l with noFlow := runOn (r.flow == 0) l.noFlow }
    if r.coldFor minTemp then s.setLane b { l1 with cold := satAdd Config.max8 l.cold 1 }
    else (s.modServed b fun x => x.addLitres u r.flow).setLane b
      { l1 with cold := 0, delivered := satAdd Config.max16 l.delivered r.flow, anyLitres := l.anyLitres || decide (0 < r.flow) }
  | .blow u _ minTemp _ _ =>
    if r.coldFor minTemp then s.setLane b { l with cold := satAdd Config.max8 l.cold 1 }
    else (s.modServed b fun x => x.addPeriod u).setLane b
      { l with cold := 0, delivered := satAdd Config.max16 l.delivered 1 }
  | .soak .. => s.setLane b { l with delivered := satAdd Config.max16 l.delivered 1 }
  | .inspect .. => s.setLane b l
  | .blank => s.setLane b l

/-- A report counted (R66, R75 to R77, R91): last temperature in every state, the counts by the lane state. -/
def State.countReport (s : State) (b : Bay) (r : Report) : State :=
  let l := { s.lane b with temp := some r.temp }
  match l.st with
  | .seating | .draining | .starved | .scanning => s.setLane b { l with timer := satAdd Config.max8 l.timer 1 }
  | .filling =>
    (s.modServed b fun x => { x with filled := satAdd Config.max16 x.filled r.fill }).setLane b
      { l with noFlow := runOn (r.fill == 0) l.noFlow }
  | .running => s.countRunning b l r
  | .idle | .waitResource | .held | .suspended => s.setLane b l

/-- The stall limit is present and reached (R75, R77). -/
def stalled (limit : Option Nat) (run : Nat) : Bool := match limit with
  | some n => n ≤ run
  | none => false

/-- What a report just counted brings about (R71, R75, R76, R77, R79, R80, R101, R135). -/
def State.reportEnd (s : State) (b : Bay) : ReportEnd :=
  let l := s.lane b
  match l.st with
  | .seating => if s.timing.seat ≤ l.timer then .seatTimeout else .goesOn
  | .draining => if s.timing.drain ≤ l.timer then .drainStuck else .goesOn
  | .starved => if s.timing.starve ≤ l.timer then .underrun else .goesOn
  | .scanning => if stalled (s.entry l.index).stall? l.timer then .scanStall else .goesOn
  | .filling => match s.served? b with
    | none => .goesOn
    | some r => match r.order with
      | none => .goesOn
      | some o =>
        if o.target ≤ r.filled then .fillComplete
        else if s.timing.fillStall ≤ l.noFlow then .fillStall
        else .goesOn
  | .running => match s.entry l.index with
    | .flush _ amount _ stall _ _ _ =>
      if amount ≤ l.delivered then .stepEnd
      else if stalled stall l.noFlow then .noFlow
      else if s.timing.cold ≤ l.cold then .coldSupply
      else .goesOn
    | .blow _ amount _ _ _ =>
      if amount ≤ l.delivered then .stepEnd else if s.timing.cold ≤ l.cold then .coldSupply else .goesOn
    | .soak amount _ _ _ => if amount ≤ l.delivered then .stepEnd else .goesOn
    | .inspect .. => .goesOn
    | .blank => .goesOn
  | .idle | .waitResource | .held | .suspended => .goesOn

/-- A record whose service is dropped at the seat limit (R11, R20). -/
def Comp.dropped (r : Comp) (service : Option Service) : Comp :=
  if service = some .fill then { r with st := .certified, order := none }
  else { r with st := if r.dirty.isSome then .dirty else .admitted, program := none }

/-- The seat limit reached (R71): the service is dropped without a start. FAULT's current index is the lane's as it stands, which for a
WASH is the program's head since the take (R68, R157, log 31). -/
def State.dropSeating (s : State) (b : Bay) : State :=
  let l := s.lane b
  let s1 := s.modServed b fun r => r.dropped l.service
  (s1.raiseBay b (.fault .seatTimeout (s.servedIndex b) l.index)).setLane b l.toIdle

/-- What follows a report's count, to the end. -/
def State.endReport (s : State) (b : Bay) (e : ReportEnd) : State :=
  match e with
  | .goesOn => s
  | .seatTimeout => (s.dropSeating b).settle [.idle b]
  | .noFlow => s.settle [.abort b .noFlow]
  | .coldSupply => s.settle [.abort b .coldSupply]
  | .drainStuck => s.settle [.abort b .drainStuck]
  | .underrun => s.settle [.abort b .underrun]
  | .scanStall => s.settle [.abort b .scanStall]
  | .fillStall => s.settle [.endFill b .stall]
  | .stepEnd => s.settle [.stepEnd b]
  | .fillComplete => s.settle [.endFill b .complete]

/-- A bay report taken whole: counted, judged, and what the judgement brings about. -/
def State.takeReport (s : State) (b : Bay) (r : Report) : State :=
  let s1 := s.countReport b r
  s1.endReport b (s1.reportEnd b)

/-- A row named for what a report brings about (log 4): the report is taken when that is what it brings about; otherwise the event
has not arisen and nothing changes. -/
def State.takeReportFor (s : State) (b : Bay) (r : Report) (e : ReportEnd) : State :=
  if (s.countReport b r).reportEnd b = e then s.takeReport b r else s

/-- A report's values as its message carries them; the port drops one with a temperature above 99 (R186). -/
def report? (flow fill temp : Byte) : Option Report :=
  if temp.toNat ≤ 99 then some { flow := flow.toNat, fill := fill.toNat, temp := temp.toNat } else none

/-! ## Signals (R70, R72, R75, R79, R100, R136, R137) -/

/-- SEATED (R70, R72, R137). -/
def State.takeSeated (s : State) (b : Bay) (k : Nat) : State :=
  let l := s.lane b
  let s1 := s.setLane b { l with seated := some k }
  match l.st with
  | .seating =>
    if l.current = some k then s1.settle [if l.service = some .fill then .fillWait b else .fetch b] else s1
  | .running | .draining | .scanning => if l.current = some k then s1 else s1.settle [.abort b .lanceLost]
  | .filling => if l.current = some k then s1 else s1.settle [.endFill b .lanceLost]
  | .idle | .waitResource | .starved | .held | .suspended => s1

/-- LIFTED (R70, R72, R137). -/
def State.takeLifted (s : State) (b : Bay) : State :=
  let l := s.lane b
  let s1 := s.setLane b { l with seated := none }
  match l.st with
  | .running | .draining | .scanning => s1.settle [.abort b .lanceLost]
  | .filling => s1.settle [.endFill b .lanceLost]
  | .idle | .seating | .waitResource | .starved | .held | .suspended => s1

/-- DRAIN_CLEAR (R79): it ends a drain, and has no effect in any other state (R66). -/
def State.takeDrainClear (s : State) (b : Bay) : State :=
  if (s.lane b).st = .draining then s.settle [.proceed b] else s

/-- HIGH_LEVEL (R75, R76, R136). -/
def State.takeHighLevel (s : State) (b : Bay) : State :=
  match (s.lane b).st with
  | .running => if (s.stepOf b).kind = .flush then s.settle [.abort b .flooded] else s
  | .filling => s.settle [.endFill b .highLevel]
  | .idle | .seating | .waitResource | .draining | .scanning | .starved | .held | .suspended => s

/-! ## Scanning and verdicts (R100, R104 to R107) -/

/-- The grades a window's zones hold. -/
def windowGrades (m : ResidueMap) (zs : List Zone) : List Nat := zs.filterMap fun z => (m[zoneIx z]).map (·.val)

/-- The highest of a list of grades. -/
def maxGrade : List Nat → Nat
  | [] => 0
  | g :: gs => max g (maxGrade gs)

/-- M, C and the verdict index of a window (R104 items 1 to 3). -/
def verdictFigures (grades : List Nat) (threshold : Nat) : Nat × Nat × Nat :=
  let m := maxGrade grades
  let c := (grades.filter fun g => threshold < g).length
  (m, c, m * 8 + min c 7)

/-- The verdict table entry at an index (R109). -/
def State.verdictAt (s : State) (i : Nat) : Judgement := if h : i < 64 then s.verdicts[i] else .refer

/-- What a lane does with an outcome (R105 to R107). -/
def State.actOnVerdict (s : State) (b : Bay) : Judgement → State
  | .pass cap =>
    let l := s.lane b
    (s.setLane b { l with cap := min l.cap cap, inspected := true }).settle [.proceed b]
  | .rewash =>
    (s.modServed b fun r => { r with st := .dirty, dirty := some .verdict, achieved := 0 }).settle [.toIdle b]
  | .refer =>
    ((s.modServed b fun r => { r with st := .referred, achieved := 0 }).raiseBay b (.referral (s.servedIndex b))).settle
      [.toIdle b]

/-- The verdict (R104). -/
def State.giveVerdict (s : State) (b : Bay) (x : Scan) : State :=
  let f := verdictFigures (windowGrades (s.residue b) (scanZones x.window x.order)) x.threshold
  let outcome := s.verdictAt f.2.2
  let s1 := s.modServed b fun r =>
    { r with verdict := some { maxGrade := f.1, overCount := f.2.1, outcome := some outcome, index := f.2.2 } }
  let s2 := s1.raiseBay b (.verdict (s.servedIndex b) (s.lane b).index f.1 f.2.1 f.2.2 outcome)
  ((s2.setScan b none).setPin b none).actOnVerdict b outcome

/-- PROBE (R100): in SCANNING the reading is written at the pointer; the last one of the window gives the verdict. -/
def State.takeProbe (s : State) (b : Bay) (g : Grade) : State :=
  let l := s.lane b
  match l.st, s.scan b with
  | .scanning, some x =>
    let s1 := s.setResidue b ((s.residue b).set (zoneIx x.pointer) (some g))
    let s2 := s1.setLane b { l with timer := 0 }
    match (scanZones x.window x.order)[x.written + 1]? with
    | some z => s2.setScan b (some { x with pointer := z, written := x.written + 1 })
    | none => s2.giveVerdict b { x with written := x.written + 1 }
  | _, _ => s

/-- A compartment index as a SEATED message carries it, 1 to 8 (R186). -/
def seatedIndex? (x : Byte) : Option Nat := index? x
/-- A grade as a PROBE message carries it, 0 to 7 (R186). -/
def grade? (x : Byte) : Option Grade := if h : x.toNat < 8 then some ⟨x.toNat, h⟩ else none

/-! ## Requests answered at the lane -/

/-- ABORT (R84). -/
def answerAbort (bay : Byte) (s : State) : State × Reply :=
  if s.mode = .dormant then (s, .refuse .wrongMode)
  else match bay? bay with
    | none => (s, .refuse .badValue)
    | some b =>
      if (s.lane b).st ≠ .idle ∧ (s.lane b).service = some .wash then
        (s.settle [.abort b .aborted], .ok [byte (s.servedIndex b)])
      else (s, .refuse .wrongState)

/-- HOLD (R86). -/
def answerHold (bay : Byte) (s : State) : State × Reply :=
  if s.mode = .dormant then (s, .refuse .wrongMode)
  else match bay? bay with
    | none => (s, .refuse .badValue)
    | some b =>
      let s1 := s.settle [.hold b .host]
      (s1, .ok [byte (s1.lane b).holds.code])

/-- RESUME (R86). -/
def answerResume (bay : Byte) (s : State) : State × Reply :=
  if s.mode = .dormant then (s, .refuse .wrongMode)
  else match bay? bay with
    | none => (s, .refuse .badValue)
    | some b =>
      let s1 := s.settle [.unhold b .host]
      (s1, .ok [byte (s1.lane b).holds.code])

/-- A visit's fields in BAY_STATUS (11.5). -/
def visitBytes : Option Visit → List Byte
  | none => [0, 0, 0, 0, 0, 0]
  | some v => 1 :: bytes3 v.fleet ++ [flag v.urgent, byte v.count]

/-- The bay status record (11.5). -/
def State.bayStatusBytes (s : State) (b : Bay) : List Byte :=
  let l := s.lane b
  visitBytes (s.visit b) ++
  [byte l.st.code, orAbsent (l.ret.map LaneState.code), flag l.starveRelease, orAbsent l.current,
    orAbsent (l.service.map Service.code), byte l.holds.code, byte l.queue.length] ++
  (l.queue.flatMap fun e => [byte e.index, byte e.kind.code]) ++
  [orAbsent l.seated, byte l.index.val, byte l.fetched] ++ bytes2 l.delivered ++
  [byte l.noFlow, byte l.cold, byte l.timer, orAbsent l.temp, byte l.cap, flag l.inspected, byte s.freeRecords]

/-- BAY_STATUS (R93). -/
def answerBayStatus (bay : Byte) (s : State) : State × Reply :=
  match bay? bay with
  | none => (s, .refuse .badValue)
  | some b =>
    let l := s.lane b
    (s, { result := .ok, fields := s.bayStatusBytes b, prior := false,
          limited := l.delivered == Config.max16 || l.noFlow == Config.max8 || l.cold == Config.max8 || l.timer == Config.max8 })

/-- SET_TIMING (R181). -/
def answerSetTiming (seat cold drain starve fillStall : Byte) (s : State) : State × Reply :=
  if seat.toNat = 0 ∨ cold.toNat = 0 ∨ drain.toNat = 0 ∨ starve.toNat = 0 ∨ fillStall.toNat = 0 then (s, .refuse .badValue)
  else
    ({ s with timing := { seat := seat.toNat, cold := cold.toNat, drain := drain.toNat, starve := starve.toNat,
                          fillStall := fillStall.toNat } }, .ok [seat, cold, drain, starve, fillStall])

/-- A zone's byte in MAP_READ (11.4). -/
def zoneByte (g : Option Grade) : Byte := orAbsent (g.map (·.val))

/-- The scan block of MAP_READ (11.4). -/
def scanBlock : Option Scan → List Byte
  | none => [0, 0, 0, 0, 0, 0, 0, 0, 0, 0]
  | some x => [1, byte x.window.firstRing.val, byte x.window.lastRing.val, byte x.window.firstSector.val,
      byte x.window.lastSector.val, byte x.order.code, byte x.threshold, byte x.written, byte x.pointer.ring.val,
      byte x.pointer.sector.val]

/-- MAP_READ (R113). -/
def answerMapRead (bay firstRing lastRing firstSector lastSector : Byte) (s : State) : State × Reply :=
  match bay? bay, ring? firstRing, ring? lastRing, sector? firstSector, sector? lastSector with
  | some b, some r0, some r1, some c0, some c1 =>
    if r0.val ≤ r1.val ∧ c0.val ≤ c1.val then
      let zs := scanZones { firstRing := r0, lastRing := r1, firstSector := c0, lastSector := c1 } .ringUp
      (s, .ok (scanBlock (s.scan b) ++ zs.map fun z => zoneByte ((s.residue b)[zoneIx z])))
    else (s, .refuse .badValue)
  | _, _, _, _, _ => (s, .refuse .badValue)

/-! ## Verdict table requests (R110, R111) -/

/-- A run of verdict table entries, as outcomes. -/
def State.verdictBytes (s : State) (first count : Nat) : List Byte :=
  (List.range count).map fun i => byte (s.verdictAt (first + i)).code

/-- Entries written from an index upward. -/
def writeVerdicts (t : Vector Judgement 64) : Nat → List Judgement → Vector Judgement 64
  | _, [] => t
  | i, x :: xs => writeVerdicts (t.setIfInBounds i x) (i + 1) xs

/-- LOAD_VERDICT (R110). -/
def answerLoadVerdict (first : Byte) (outcomes : List Byte) (s : State) : State × Reply :=
  if 63 < first.toNat ∨ outcomes.length = 0 ∨ 16 < outcomes.length ∨ 64 < first.toNat + outcomes.length then
    (s, .refuse .badValue)
  else match all? judgement? outcomes with
    | none => (s, .refuse .badValue)
    | some js =>
      ({ s with verdicts := writeVerdicts s.verdicts first.toNat js },
       .ok (first :: byte outcomes.length :: s.verdictBytes first.toNat outcomes.length))

/-- READ_VERDICT (R111). -/
def answerReadVerdict (first count : Byte) (s : State) : State × Reply :=
  if 63 < first.toNat ∨ count.toNat = 0 ∨ 16 < count.toNat ∨ 64 < first.toNat + count.toNat then (s, .refuse .badValue)
  else (s, .ok (first :: count :: s.verdictBytes first.toNat count.toNat))

end Sys2Proof.Machine
end

