-- ==== Sys2Proof/Machine/Certificates.lean ====
section
/-! DEFINITION. Machine/Certificates.lean: the requests of the certificate unit and the yard clock (R149 to R155). -/

namespace Sys2Proof.Machine

/-- SET_CLOCK (R155). -/
def answerSetClock (clock : BitVec 32) (s : State) : State × Reply :=
  (s.setCerts { s.certs with clock := clock.toNat }, .ok [])

/-- A minute tick (R155): the count after 4,294,967,295 is 0. -/
def State.tick (s : State) : State := s.setCerts { s.certs with clock := (s.certs.clock + 1) % 4294967296 }

/-- SET_AUDIT (R153): both values stored, then the backlog judged against the new level. -/
def answerSetAudit (period highWater : Byte) (s : State) : State × Reply :=
  if 1 ≤ highWater.toNat ∧ highWater.toNat ≤ 24 then
    ((s.setCerts { s.certs with period := period.toNat, highWater := highWater.toNat }).judgeBacklog,
     .ok [period, highWater])
  else (s, .refuse .badValue)

/-- SET_CERT_BASE (R154), its checks in the rule's order (log 29). -/
def answerSetCertBase (number : BitVec 32) (s : State) : State × Reply :=
  if s.mode ≠ .dormant then (s, .refuse .wrongMode)
  else if s.certs.log.isEmpty = false then (s, .refuse .wrongState)
  else if number.toNat = 0 then (s, .refuse .badValue)
  else (s.setCerts { s.certs with next := some number.toNat }, .ok [])

/-- A certificate's 27 bytes (11.5). -/
def Cert.bytes (c : Cert) : List Byte :=
  bytes4 c.number ++ bytes3 c.fleet ++
  [byte (bayNum c.bay), byte c.index, byte (priorCode c.prior), byte c.programClass, byte c.achieved, orAbsent c.verdictIndex,
    byte c.maxGrade] ++
  bytes2 c.water ++ bytes2 c.chemical ++ bytes2 c.steam ++ bytes2 c.dryer ++ bytes4 c.issueTime ++ [flag c.referral]

/-- A totals field of the certificate stands at 65,535 (R142). -/
def Cert.saturated (c : Cert) : Bool :=
  c.water == Config.max16 || c.chemical == Config.max16 || c.steam == Config.max16 || c.dryer == Config.max16

/-- The certificate summary, 15 bytes (11.5); a next number of 0 shows SPENT. -/
def CertUnit.summary (u : CertUnit) (returned : Nat) : List Byte :=
  [byte u.log.length] ++ bytes4 (u.next.getD 0) ++
  [byte u.withheld.length,
    byte ((if u.hold then 1 else 0) + (if u.backlog then 2 else 0) + (if u.next.isNone then 4 else 0)),
    byte u.period, byte u.counter, byte u.highWater] ++
  bytes4 u.clock ++ [byte returned]

/-- CERT_READ (R152). -/
def answerCertRead (count : Byte) (s : State) : State × Reply :=
  if 1 ≤ count.toNat ∧ count.toNat ≤ 4 then
    let cs := s.certs.log.take count.toNat
    (s, { result := .ok, fields := s.certs.summary cs.length ++ cs.flatMap Cert.bytes, prior := false,
          limited := cs.any Cert.saturated || s.certs.counter == Config.max8 })
  else (s, .refuse .badValue)

/-- The k oldest certificates removed and the backlog judged (R150). -/
def State.retire (s : State) (k : Nat) : State :=
  (s.setCerts { s.certs with log := s.certs.log.drop k }).judgeBacklog

/-- CERT_RETIRE (R150): the retired certificates go, then outside audit hold the withheld list is drained. -/
def answerCertRetire (k : Byte) (s : State) : State × Reply :=
  match s.certs.log with
  | [] => (s, .refuse .badValue)
  | oldest :: _ =>
    if k.toNat = 0 ∨ 24 < k.toNat ∨ s.certs.log.length < k.toNat then (s, .refuse .badValue)
    else
      let s1 := s.retire k.toNat
      let s2 := if s1.certs.hold then s1 else s1.settle [.drain]
      (s2, .ok (bytes4 oldest.number ++
        [byte s2.certs.log.length, byte (s2.certs.log.length - s1.certs.log.length), byte s2.certs.withheld.length]))

/-- The hold's end with its drain, and then each lane's judgement of its queue (R148, R149, log 15). -/
def State.releaseAudit (s : State) : State :=
  (s.setCerts { s.certs with hold := false }).settle (.drain :: allBays.map .idle)

/-- AUDIT_RELEASE (R149). -/
def answerAuditRelease (s : State) : State × Reply :=
  if s.certs.hold = false then (s, .ok [0, byte s.certs.withheld.length])
  else if s.certs.next.isNone then (s, .refuse .wrongState)
  else
    let s1 := s.releaseAudit
    (s1, .ok [byte (s1.certs.log.length - s.certs.log.length), byte s1.certs.withheld.length])

end Sys2Proof.Machine
end

