-- ==== Sys2Proof/Machine/Compartments.lean ====
section
/-! DEFINITION. Machine/Compartments.lean: the requests of the compartment table (R6 to R24) and EXTEND (R56 to R58). -/

namespace Sys2Proof.Machine

/-- The visit check of R6 item 3, with the record it leads to. A bay's records are exactly its visit's compartments (R2), so a
record missing from the pool cannot be met; it is answered WRONG_STATE (log 20). -/
def State.findRecord (s : State) (b : Bay) (k : Nat) : Except Result Comp :=
  match s.visit b with
  | none => .error .wrongState
  | some v =>
    if v.count < k then .error .badValue
    else match s.record? b k with
      | none => .error .wrongState
      | some r => .ok r

/-! ## Admission (R7, R8) -/

/-- The records of a visit just admitted: index k takes the k-th prior class (R8). -/
def freshRecords (b : Bay) (priors : List (Option Cargo)) : List Comp := (priors.zipIdx 1).map fun p => Comp.fresh b p.2 p.1

/-- An accepted ADMIT (R8). -/
def State.admitVisit (s : State) (b : Bay) (fleet : Nat) (urgent : Bool) (priors : List (Option Cargo)) : State :=
  (s.setVisit b (some { fleet := fleet, urgent := urgent, count := priors.length })).setRecords
    (s.records ++ freshRecords b priors)

/-- ADMIT (R7). -/
def answerAdmit (bay : Byte) (fleet : BitVec 24) (priority : Byte) (priors : List Byte) (s : State) : State × Reply :=
  if s.mode = .dormant then (s, .refuse .wrongMode)
  else match bay? bay, priority? priority, all? prior? priors with
    | some b, some urgent, some ps =>
      if fleet.toNat = 0 ∨ 999999 < fleet.toNat ∨ priors.length = 0 ∨ 8 < priors.length then (s, .refuse .badValue)
      else if (s.visit b).isSome then (s, .refuse .wrongState)
      else if s.certs.backlog then (s, .refuse .backlog)
      else if s.freeRecords < priors.length then (s, .refuse .noSpace)
      else
        let s1 := s.admitVisit b fleet.toNat urgent ps
        (s1, .ok [byte s1.freeRecords])
    | _, _, _ => (s, .refuse .badValue)

/-! ## Departure and clearing (R22, R23, R85) -/

/-- The records of a bay. -/
def State.bayRecords (s : State) (b : Bay) : List Comp := s.records.filter fun r => r.bay == b
/-- A record that does not keep its visit from departing (R22). -/
def CompState.mayDepart : CompState → Bool
  | .admitted | .dirty | .certified | .filled => true
  | .queued | .washing | .referred | .awaitCert | .filling => false
/-- A visit and its records removed (R22, R23). -/
def State.freeVisit (s : State) (b : Bay) : State :=
  (s.setVisit b none).setRecords (s.records.filter fun r => !(r.bay == b))

/-- An accepted DEPART (R22). -/
def State.depart (s : State) (b : Bay) : State :=
  let l := s.lane b
  (s.setLane b { l.park with queue := l.queue.filter (fun e => !(e.kind == .fill)), seated := none }).freeVisit b

/-- DEPART (R22). -/
def answerDepart (bay : Byte) (s : State) : State × Reply :=
  if s.mode = .dormant then (s, .refuse .wrongMode)
  else match bay? bay with
    | none => (s, .refuse .badValue)
    | some b =>
      if (s.visit b).isNone then (s, .refuse .wrongState)
      else if (s.bayRecords b).all fun r => r.st.mayDepart then
        let s1 := s.depart b
        (s1, .ok [byte s1.freeRecords])
      else (s, .refuse .wrongState)

/-- The lane stopped by a clear (R85): IDLE, queue empty, lance parked, seat absent; hold causes, current index and last
temperature kept. -/
def Lane.cleared (l : Lane) : Lane := { l.toIdle.park with queue := [], seated := none }

/-- An accepted BAY_CLEAR of a visit (R23). A scan in progress is cut off with the pin (R98, R102). -/
def State.clearBay (s : State) (b : Bay) : State :=
  let x := s.release b
  let s1 := ((x.1.setPin b none).setScan b none).setLane b (x.1.lane b).cleared
  let s2 := s1.setCerts { s1.certs with withheld := s1.certs.withheld.filter fun w => !(w.bay == b) }
  (s2.freeVisit b).settle x.2

/-- BAY_CLEAR (R23). -/
def answerBayClear (bay : Byte) (s : State) : State × Reply :=
  if s.mode = .dormant then (s, .refuse .wrongMode)
  else match bay? bay with
    | none => (s, .refuse .badValue)
    | some b => (if (s.visit b).isNone then s else s.clearBay b, .ok [])

/-! ## Washing (R9, R56, R57) -/

/-- An accepted ASSIGN (R9): the program, QUEUED, and a WASH entry at the tail, judged where it became the head (R64). -/
def State.assign (s : State) (b : Bay) (k : Nat) (p : Program) : State :=
  ((s.modRecord b k fun r => { r with program := some p, st := .queued }).appendEntry b { index := k, kind := .wash }).settle
    (s.afterIssue b)

/-- ASSIGN (R9). -/
def answerAssign (bay index head chainMode last programClass : Byte) (s : State) : State × Reply :=
  if s.mode = .dormant then (s, .refuse .wrongMode)
  else match bay? bay, index? index, chain? chainMode last, class? programClass with
    | some b, some k, some c, some n => match s.findRecord b k with
      | .error e => (s, .refuse e)
      | .ok r =>
        if r.st = .admitted ∨ r.st = .dirty then (s.assign b k { head := stepIx head, chain := c, cls := n }, .ok [])
        else (s, .refuse .wrongState)
    | _, _, _, _ => (s, .refuse .badValue)

/-- A record whose program's last index is set (R56). -/
def Comp.extended (r : Comp) (last : StepIx) : Comp :=
  { r with program := r.program.map fun p => { p with chain := .bounded last } }

/-- What an accepted EXTEND does with the record's lane (R57); the second component is the released indication. -/
def State.extend (s : State) (b : Bay) (k : Nat) (last : StepIx) : State × Bool :=
  let s1 := s.modRecord b k fun r => r.extended last
  let l := s1.lane b
  if l.current = some k ∧ l.service = some .wash then
    match l.st, l.ret with
    | .starved, _ => ((s1.goNext b l).settle [.fetch b], true)
    | .held, some .starved => (s1.setLane b { l with starveRelease := true }, true)
    | _, _ => (s1, false)
  else (s1, false)

/-- The last index of a record that EXTEND is accepted for (R56 item 4). -/
def Comp.lastIndex? (r : Comp) : Option StepIx :=
  if r.st = .queued ∨ r.st = .washing then
    match r.program with
    | some { chain := .bounded old, .. } => some old
    | _ => none
  else none

/-- EXTEND (R56). -/
def answerExtend (bay index newLast : Byte) (s : State) : State × Reply :=
  if s.mode = .dormant then (s, .refuse .wrongMode)
  else match bay? bay, index? index with
    | some b, some k => match s.findRecord b k with
      | .error e => (s, .refuse e)
      | .ok r => match r.lastIndex? with
        | none => (s, .refuse .wrongState)
        | some old =>
          let x := s.extend b k (stepIx newLast)
          (x.1, .ok [byte old.val, flag x.2])
    | _, _ => (s, .refuse .badValue)

/-! ## Fill orders (R17 to R19) -/

/-- ORDER_FILL is accepted in every state but FILLING and FILLED (R17). -/
def CompState.mayOrder : CompState → Bool
  | .admitted | .queued | .washing | .dirty | .referred | .awaitCert | .certified => true
  | .filling | .filled => false

/-- A lane's queue holds a FILL entry for the compartment. -/
def Lane.queuedFill (l : Lane) (k : Nat) : Bool := l.queue.any fun e => e == { index := k, kind := .fill }

/-- An accepted ORDER_FILL (R18): the order stored, and in CERTIFIED a FILL entry unless one waits already. -/
def State.orderFill (s : State) (b : Bay) (r : Comp) (o : FillOrder) : State :=
  let s1 := s.modRecord b r.index fun x => { x with order := some o }
  if r.st = .certified ∧ (s.lane b).queuedFill r.index = false then
    (s1.appendEntry b { index := r.index, kind := .fill }).settle (s.afterIssue b)
  else s1

/-- The checks of an order in an accepting state (R17, R31) and its acceptance. -/
def State.judgeOrder (s : State) (b : Bay) (r : Comp) (o : FillOrder) : State × Reply :=
  if !s.lineCarries o.cargo then (s, .refuse .noLine)
  else match s.carryEntry r.prior o.cargo with
    | .forbidden => (s, .refuse .forbidden)
    | .required c =>
      if r.st = .certified ∧ r.achieved < c then
        (s, { result := .classShort, fields := [byte c, byte r.achieved], limited := false, prior := false })
      else (s.orderFill b r o, .ok [byte c])

/-- ORDER_FILL (R17). -/
def answerOrderFill (bay index cargo : Byte) (target : BitVec 16) (s : State) : State × Reply :=
  if s.mode = .dormant then (s, .refuse .wrongMode)
  else match bay? bay, index? index, cargo? cargo with
    | some b, some k, some c =>
      if target.toNat = 0 ∨ 20000 < target.toNat then (s, .refuse .badValue)
      else match s.findRecord b k with
        | .error e => (s, .refuse e)
        | .ok r =>
          if r.st.mayOrder then s.judgeOrder b r { cargo := c, target := target.toNat } else (s, .refuse .wrongState)
    | _, _, _ => (s, .refuse .badValue)

/-- CANCEL_FILL of a CERTIFIED record (R19): order and FILL entry go; a new head is judged (R64). -/
def State.dropFill (s : State) (b : Bay) (k : Nat) : State :=
  let l := s.lane b
  let gone : QEntry := { index := k, kind := .fill }
  let s1 := (s.modRecord b k fun r => { r with order := none }).setLane b { l with queue := l.queue.filter fun e => !(e == gone) }
  s1.settle (if l.queue.head? = some gone then [.idle b] else [])

/-- CANCEL_FILL (R19, R138). -/
def answerCancelFill (bay index : Byte) (s : State) : State × Reply :=
  if s.mode = .dormant then (s, .refuse .wrongMode)
  else match bay? bay, index? index with
    | some b, some k => match s.findRecord b k with
      | .error e => (s, .refuse e)
      | .ok r =>
        if r.order.isNone ∨ r.st = .filled then (s, .refuse .wrongState)
        else if r.st = .certified then (s.dropFill b k, .ok [])
        else if r.st = .filling then (s.settle [.endFill b .cancelFill], .ok [])
        else (s.modRecord b k fun x => { x with order := none }, .ok [])
    | _, _ => (s, .refuse .badValue)

/-! ## Referral rulings (R16) -/

/-- An accepted ruling ACCEPT: the lesser class, then the certificate unit, with the referral flag. -/
def State.acceptReferral (s : State) (b : Bay) (r : Comp) (cls : Nat) : State :=
  (s.modRecord b r.index fun x => { x with achieved := min r.programClass cls }).settle [.certify b r.index true]
/-- An accepted ruling REJECT. -/
def State.rejectReferral (s : State) (b : Bay) (k : Nat) : State :=
  s.modRecord b k fun x => { x with st := .dirty, dirty := some .referralRejected, achieved := 0 }

/-- A ruling with the class that only ACCEPT judges (R16, 11.4): `some none` is REJECT. -/
def ruling? (ruling cls : Byte) : Option (Option Nat) :=
  match bool? ruling with
  | some true => (class? cls).map some
  | some false => some none
  | none => none

/-- RULE_REFERRAL (R16). -/
def answerRuleReferral (bay index ruling cls : Byte) (s : State) : State × Reply :=
  if s.mode = .dormant then (s, .refuse .wrongMode)
  else match bay? bay, index? index, ruling? ruling cls with
    | some b, some k, some rule => match s.findRecord b k with
      | .error e => (s, .refuse e)
      | .ok r =>
        if r.st = .referred then
          (match rule with
            | some n => s.acceptReferral b r n
            | none => s.rejectReferral b k, .ok [])
        else (s, .refuse .wrongState)
    | _, _, _ => (s, .refuse .badValue)

/-! ## COMPARTMENT_STATUS (R24) -/

/-- Program field (11.5). -/
def Program.bytes? : Option Program → List Byte
  | none => [0, 0, 0, 0, 0]
  | some p => [1, byte p.head.val, byte p.chain.code, match p.chain with
      | .follow => 0
      | .bounded l => byte l.val, byte p.cls]
/-- Verdict record field (11.5); outcome NONE is 0. -/
def VerdictRec.bytes? : Option VerdictRec → List Byte
  | none => [0, 0, 0, 0, 0]
  | some v => [1, byte v.maxGrade, byte v.overCount, byte (match v.outcome with
      | none => 0
      | some j => j.code), byte v.index]
/-- Certificate number field (11.5). -/
def numberBytes? : Option Nat → List Byte
  | none => 0 :: bytes4 0
  | some n => 1 :: bytes4 n
/-- Fill order field (11.5). -/
def FillOrder.bytes? : Option FillOrder → List Byte
  | none => [0, 0, 0, 0]
  | some o => [1, byte o.cargo.val] ++ bytes2 o.target

/-- The compartment record, 36 bytes (11.5). -/
def Comp.bytes (r : Comp) : List Byte :=
  [byte (bayNum r.bay), byte r.index, byte (priorCode r.prior), byte r.st.code] ++ Program.bytes? r.program ++
  [orAbsent (r.dirty.map Reason.code), byte r.achieved] ++ VerdictRec.bytes? r.verdict ++ numberBytes? r.cert ++
  FillOrder.bytes? r.order ++ bytes2 r.filled ++ [orAbsent (r.outcome.map FillOutcome.code)] ++ bytes2 r.water ++
  bytes2 r.chemical ++ bytes2 r.steam ++ bytes2 r.dryer

/-- One of the five counts stands at 65,535 (R4, R24). -/
def Comp.saturated (r : Comp) : Bool :=
  r.filled == Config.max16 || r.water == Config.max16 || r.chemical == Config.max16 || r.steam == Config.max16 ||
    r.dryer == Config.max16

/-- COMPARTMENT_STATUS (R6, R24). -/
def answerCompartmentStatus (bay index : Byte) (s : State) : State × Reply :=
  match bay? bay, index? index with
  | some b, some k => match s.findRecord b k with
    | .error e => (s, .refuse e)
    | .ok r => (s, { result := .ok, fields := r.bytes, limited := r.saturated, prior := false })
  | _, _ => (s, .refuse .badValue)

end Sys2Proof.Machine
end

