-- ==== Sys2Proof/Machine/Mode.lean ====
section
/-! DEFINITION. Machine/Mode.lean: mode control. The yard mode, the stop line, the mark set, IDENT, and RESTART's reach into every
block (R175 to R182). -/

namespace Sys2Proof.Machine

/-- The mode control's own view of a stop standing (R176): the stop line high or mark 7 set. -/
def State.stopStands (s : State) : Bool := s.stopLevel || s.marks[7]
/-- No visit exists (R176). -/
def State.noVisit (s : State) : Bool := allBays.all fun b => (s.visit b).isNone

/-- What the lanes do at a change of mode (R177), one lane after another in ascending number (log 8): they take STOP at an entry
into STOPPED, lose it at an exit, and judge their queues at RUN. -/
def modeTasks (left entered : Mode) : List Task :=
  match left, entered with
  | .stopped, .run => allBays.map fun b => .unhold b .stop
  | .stopped, .dormant => allBays.map fun b => .unhold b .stop
  | .dormant, .run => allBays.map .idle
  | .run, .stopped => allBays.map fun b => .hold b .stop
  | .dormant, .stopped => allBays.map fun b => .hold b .stop
  | .run, .dormant => []
  | .dormant, .dormant => []
  | .run, .run => []
  | .stopped, .stopped => []

/-- Every lane's lance order parked, as at the entry into DORMANT (R92, R177). -/
def State.parkLanes (s : State) : State := allBays.foldl (fun t b => t.setLane b (t.lane b).park) s

/-- A change of the yard mode (R176, R177): the mode is set (log 26), the lanes act, and MODE_CHANGE is raised last. -/
def State.changeMode (s : State) (entered : Mode) (cause : ModeCause) : State :=
  let s1 := { s with mode := entered }
  let s2 := if entered = .dormant then s1.parkLanes else s1
  s2.settle (modeTasks s.mode entered ++ [.modeChange s.mode entered cause])

/-- What SET_MODE answers: the mode to enter, or `none` for WRONG_STATE (R176's table). -/
def State.modeFor (s : State) (asked : Mode) : Option Mode :=
  match s.mode, asked with
  | .dormant, .run => some (if s.stopStands then .stopped else .run)
  | .dormant, .stopped => some .stopped
  | .dormant, .dormant => some .dormant
  | .run, .run => some .run
  | .run, .stopped => some .stopped
  | .run, .dormant => if s.noVisit then some .dormant else none
  | .stopped, .run => if s.stopStands then none else some .run
  | .stopped, .stopped => some .stopped
  | .stopped, .dormant => if s.noVisit then some .dormant else none

/-- SET_MODE (R176). Its reply carries the mode after, also with WRONG_STATE (R184). -/
def answerSetMode (mode : Byte) (s : State) : State × Reply :=
  match mode? mode with
  | none => (s, .refuse .badValue)
  | some asked => match s.modeFor asked with
    | none => (s, { result := .wrongState, fields := [byte s.mode.code], limited := false, prior := false })
    | some m =>
      let s1 := if m = s.mode then s else s.changeMode m .setMode
      (s1, .ok [byte s1.mode.code])

/-- IDENT (R180). -/
def answerIdent (s : State) : State × Reply :=
  (s, .ok (bytes2 Config.partCode ++ [byte Config.revision, byte Config.bays, byte Config.records] ++ bytes2 Config.steps ++
    [byte Config.logCapacity, byte s.mode.code, flag s.stopLevel, byte s.officeRate]))

/-! ## Marks (R178, R179) -/

/-- The four operations of MARK. -/
inductive MarkOp where
  | test
  | set
  | clear
  | flip
  deriving DecidableEq, Repr

/-- A mark operation's code (11.2). -/
def MarkOp.code : MarkOp → Byte
  | .test => 0
  | .set => 1
  | .clear => 2
  | .flip => 3
/-- A mark operation read from its code. -/
def markOp? (x : Byte) : Option MarkOp :=
  match x.toNat with
  | 0 => some .test
  | 1 => some .set
  | 2 => some .clear
  | 3 => some .flip
  | _ => none
/-- A mark number, 0 to 31. -/
def mark? (x : Byte) : Option (Fin 32) := if h : x.toNat < 32 then some ⟨x.toNat, h⟩ else none
/-- The new value an operation gives (R178). -/
def MarkOp.value (o : MarkOp) (prior : Bool) : Bool :=
  match o with
  | .test => prior
  | .set => true
  | .clear => false
  | .flip => !prior

/-- The bay a mark locks out, for marks 1 to 6 (R179). -/
def lockoutBay? (m : Fin 32) : Option Bay := if h : 1 ≤ m.val ∧ m.val ≤ 6 then some ⟨m.val - 1, by omega⟩ else none

/-- A change of a mark's value, with the wired effect of marks 1 to 7 (R179). -/
def State.putMark (s : State) (m : Fin 32) (v : Bool) : State :=
  let s1 := { s with marks := s.marks.set m v }
  match lockoutBay? m with
  | some b => s1.settle [if v then .hold b .lockout else .unhold b .lockout]
  | none => if m = 7 ∧ v = true ∧ s.mode = .run then s1.changeMode .stopped .mark7 else s1

/-- MARK (R178): its Prior condition is the value before, its fields the mark and the new value. Refused for an operation not in the
list, it carries out no operation, and Prior is clear also where the mark it names is set (the model's reading of R172 and R178, log 33). -/
def answerMark (operation mark : Byte) (s : State) : State × Reply :=
  match markOp? operation, mark? mark with
  | some o, some m =>
    let prior := s.marks[m]
    let v := o.value prior
    (if v = prior then s else s.putMark m v, { result := .ok, fields := [mark, flag v], limited := false, prior := prior })
  | _, _ => (s, .refuse .badValue)

/-! ## The stop line (R177) -/

/-- The stop line rises. -/
def State.stopRise (s : State) : State :=
  let s1 := { s with stopLevel := true }
  if s.mode = .run then s1.changeMode .stopped .stopLine else s1
/-- The stop line falls. -/
def State.stopFall (s : State) : State := { s with stopLevel := false }

/-! ## RESTART (R182) -/

/-- A bay's lane after RESTART: the reset values, with LOCKOUT where its mark stands set (R94). -/
def State.restartLane (s : State) (b : Bay) : Lane := Lane.reset (s.marks[b.val + 1]'(by omega))
/-- A utility after RESTART (R130): settings kept, its fault flag read from the line, nothing granted or claimed. -/
def Util.restart (x : Util) (fault : Bool) : Util :=
  { x with fault := fault, grants := [], claims := [], counter := 0, returning := none }
/-- A port after RESTART (R186): hunting, and the reset orders sent as soon as it is free. -/
def Port.restart (p : Port) : Port := ({ p with partway := none } : Port).change Orders.reset

/-- Every block at the values its chapter gives for RESTART, before its one event. -/
def State.restarted (s : State) : State :=
  { s with
    mode := .dormant, stopLevel := s.pins.stop,
    visits := Vector.replicate 6 none, records := [],
    store := { s.store with first := 0, last := 255, pointer := 0, pins := Vector.replicate 6 none },
    lanes := Vector.ofFn s.restartLane,
    ports := Vector.ofFn fun b => s.ports[b].restart,
    maps := Vector.replicate 6 ResidueMap.clear, scans := Vector.replicate 6 none,
    utils := Vector.ofFn fun i => s.utils[i].restart s.pins.faults[i],
    certs := { s.certs with hold := false, withheld := [] },
    notices := { s.notices with pending := Vector.replicate 7 [], counter := 0, urgent := [], routine := [] } }

/-- RESTART (R182): from RUN or STOPPED, MODE_CHANGE is the first entry in the emptied sets; from DORMANT no event is raised. -/
def answerRestart (s : State) : State × Reply :=
  (if s.mode = .dormant then s.restarted else s.restarted.raiseYard (.modeChange s.mode .dormant .restart), .ok [])

end Sys2Proof.Machine
end

