-- ==== Sys2Proof/Machine/NoticeRequests.lean ====
section
/-! DEFINITION. Machine/NoticeRequests.lean: LINK_SETUP, PENDING_READ and PENDING_CLEAR (R162, R163, R165, R166, R174). -/

namespace Sys2Proof.Machine

/-- The fourteen masks from their field: kind k in bit k − 1 (11.4). -/
def masksOf (m : BitVec 16) : Vector Bool 14 := Vector.ofFn fun i => m.getLsbD i.val

/-- The masks as the field is sent. -/
def maskBits (v : Vector Bool 14) : Nat := v.toList.foldr (fun b n => 2 * n + (if b then 1 else 0)) 0

/-- Notice settings stored, masks and show-masked before output, and both queues judged (R162). -/
def NoticeUnit.setUp (u : NoticeUnit) (masks : Vector Bool 14) (showMasked output : Bool) : NoticeUnit :=
  (({ u with masks := masks, showMasked := showMasked, output := output } : NoticeUnit).judge true).judge false

/-- LINK_SETUP (R174). -/
def answerLinkSetup (output showMasked : Byte) (masks : BitVec 16) (s : State) : State × Reply :=
  match bool? output, bool? showMasked with
  | some o, some v =>
    if masks.toNat < 16384 then
      let u := s.notices.setUp (masksOf masks) v o
      (s.setNotices u,
       .ok ([flag u.output, flag u.showMasked] ++ bytes2 (maskBits u.masks) ++ [byte s.officeRate]))
    else (s, .refuse .badValue)
  | _, _ => (s, .refuse .badValue)

/-- An entry placed by its age among entries of one set (R158, R165). -/
def insertByAge (x : Entry) : List Entry → List Entry
  | [] => [x]
  | y :: ys =>
    if NoticeUnit.older (0, x) (0, y) then x :: y :: ys else y :: insertByAge x ys
/-- Entries of one set in ascending order number. -/
def byAge : List Entry → List Entry
  | [] => []
  | x :: xs => insertByAge x (byAge xs)

/-- The entries PENDING_READ lists for a scope (R165). -/
def NoticeUnit.listed (u : NoticeUnit) (sc : Scope) : List Entry :=
  byAge ((u.set sc).filter fun x => u.showMasked || !u.masked x.event.kind)

/-- One listed entry, 15 bytes (11.4). -/
def NoticeUnit.entryBytes (u : NoticeUnit) (x : Entry) : List Byte :=
  [byte x.event.kind.code, byte x.count] ++ bytes4 x.order ++ [flag (u.masked x.event.kind)] ++ x.event.bytes

/-- PENDING_READ (R165). -/
def answerPendingRead (scope : Byte) (s : State) : State × Reply :=
  match scope? scope with
  | none => (s, .refuse .badValue)
  | some sc =>
    let u := s.notices
    let xs := u.listed sc
    (s, { result := .ok, prior := false,
          fields := [flag u.output, byte u.urgent.length, byte u.routine.length, byte ((u.set sc).length - xs.length),
            byte xs.length] ++ xs.flatMap u.entryBytes
          limited := xs.any fun x => x.count == Config.max8 || x.order == Config.max32 })

/-- A kind belongs to a scope: yard kinds to scope 0, bay kinds to the bays (R157). -/
def EventKind.belongs (k : EventKind) (sc : Scope) : Bool := k.yard == (sc == 0)

/-- The pending and masked entries of the listed kinds removed from a scope's set (R166); the counter falls to 0 with the last entry
of all sets (R158). -/
def NoticeUnit.clearKinds (u : NoticeUnit) (sc : Scope) (ks : List EventKind) : NoticeUnit :=
  let kept := (u.set sc).filter fun x => !(ks.contains x.event.kind && u.masked x.event.kind)
  if kept.length = (u.set sc).length then u
  else NoticeUnit.settleCounter { u with pending := u.pending.set sc kept }

/-- PENDING_CLEAR (R166). -/
def answerPendingClear (scope : Byte) (kinds : List Byte) (s : State) : State × Reply :=
  match scope? scope, all? eventKind? kinds with
  | some sc, some ks =>
    if ks.length = 0 ∨ 14 < ks.length ∨ ks.all (fun k => k.belongs sc) = false then (s, .refuse .badValue)
    else
      let u := s.notices.clearKinds sc ks
      (s.setNotices u,
       .ok [byte ((s.notices.set sc).length - (u.set sc).length), byte (u.set sc).length])
  | _, _ => (s, .refuse .badValue)

end Sys2Proof.Machine
end

