-- ==== Sys2Proof/Machine/Request.lean ====
section
/-! DEFINITION. Machine/Request.lean: the request kinds of 11.3 with their bodies of 11.4, read from a frame and laid out in one. -/

namespace Sys2Proof.Machine

/-- A request with its body's fields (11.4). -/
inductive Request where
  | ident
  | setMode (mode : Byte)
  | restart
  | linkSetup (output showMasked : Byte) (masks : BitVec 16)
  | setClock (clock : BitVec 32)
  | setTiming (seat cold drain starve fillStall : Byte)
  | setAudit (period highWater : Byte)
  | setCertBase (number : BitVec 32)
  | mark (operation mark : Byte)
  | loadCarryover (row : Byte) (entries : Vector Byte 16)
  | readCarryover (row : Byte)
  | loadVerdict (first : Byte) (outcomes : List Byte)
  | readVerdict (first count : Byte)
  | stepWindow (first last : Byte)
  | stepWrite (steps : List RawStep)
  | stepRead (index count : Byte)
  | setUtility (utility capacity offline cargo : Byte)
  | utilityStatus
  | admitVisit (bay : Byte) (fleet : BitVec 24) (priority : Byte) (priors : List Byte)
  | depart (bay : Byte)
  | bayClear (bay : Byte)
  | assign (bay index head chainMode last programClass : Byte)
  | extend (bay index newLast : Byte)
  | abort (bay : Byte)
  | hold (bay : Byte)
  | resume (bay : Byte)
  | orderFill (bay index cargo : Byte) (target : BitVec 16)
  | cancelFill (bay index : Byte)
  | ruleReferral (bay index ruling cls : Byte)
  | certRead (count : Byte)
  | certRetire (k : Byte)
  | auditRelease
  | bayStatus (bay : Byte)
  | compartmentStatus (bay index : Byte)
  | mapRead (bay firstRing lastRing firstSector lastSector : Byte)
  | pendingRead (scope : Byte)
  | pendingClear (scope : Byte) (kinds : List Byte)
  deriving DecidableEq, Repr

/-- Kind code (11.3). -/
def Request.kind : Request → Byte
  | .ident => 0x01
  | .setMode .. => 0x02
  | .restart => 0x03
  | .linkSetup .. => 0x04
  | .setClock .. => 0x05
  | .setTiming .. => 0x06
  | .setAudit .. => 0x07
  | .setCertBase .. => 0x08
  | .mark .. => 0x09
  | .loadCarryover .. => 0x10
  | .readCarryover .. => 0x11
  | .loadVerdict .. => 0x12
  | .readVerdict .. => 0x13
  | .stepWindow .. => 0x14
  | .stepWrite .. => 0x15
  | .stepRead .. => 0x16
  | .setUtility .. => 0x18
  | .utilityStatus => 0x19
  | .admitVisit .. => 0x20
  | .depart .. => 0x21
  | .bayClear .. => 0x22
  | .assign .. => 0x23
  | .extend .. => 0x24
  | .abort .. => 0x25
  | .hold .. => 0x26
  | .resume .. => 0x27
  | .orderFill .. => 0x28
  | .cancelFill .. => 0x29
  | .ruleReferral .. => 0x2A
  | .certRead .. => 0x30
  | .certRetire .. => 0x31
  | .auditRelease => 0x32
  | .bayStatus .. => 0x38
  | .compartmentStatus .. => 0x39
  | .mapRead .. => 0x3A
  | .pendingRead .. => 0x3B
  | .pendingClear .. => 0x3C

/-- The office-only kinds (R171). -/
def officeOnlyKinds : List Nat :=
  [0x03, 0x04, 0x05, 0x08, 0x07, 0x06, 0x10, 0x12, 0x14, 0x15, 0x18, 0x22, 0x32, 0x31]

/-- Whether a kind is office-only (R171). -/
def officeOnly (kind : Byte) : Bool := officeOnlyKinds.contains kind.toNat

/-- A descriptor's sixteen bytes. -/
def RawStep.bytes (r : RawStep) : List Byte :=
  [r.kind, r.flags, r.utility, r.amountHigh, r.amountLow, r.minTemp, r.stall, r.next, r.firstRing, r.lastRing, r.firstSector,
    r.lastSector, r.order, r.threshold, r.ignored14, r.ignored15]

/-- Descriptors read sixteen bytes at a time; `none` when the bytes do not come out even. -/
def rawSteps? : List Byte → Option (List RawStep)
  | [] => some []
  | k :: f :: u :: ah :: al :: t :: s :: n :: r0 :: r1 :: c0 :: c1 :: o :: h :: i :: j :: rest =>
    (rawSteps? rest).map fun steps =>
      { kind := k, flags := f, utility := u, amountHigh := ah, amountLow := al, minTemp := t, stall := s, next := n,
        firstRing := r0, lastRing := r1, firstSector := c0, lastSector := c1, order := o, threshold := h, ignored14 := i,
        ignored15 := j } :: steps
  | _ => none

/-- The body a request is sent with (11.4); a kind without fields sends one byte 0 (R168). -/
def Request.body : Request → List Byte
  | .ident => [0]
  | .setMode m => [m]
  | .restart => [0]
  | .linkSetup o v m => [o, v] ++ bytes2 m.toNat
  | .setClock c => bytes4 c.toNat
  | .setTiming a b c d e => [a, b, c, d, e]
  | .setAudit p h => [p, h]
  | .setCertBase n => bytes4 n.toNat
  | .mark o m => [o, m]
  | .loadCarryover r es => r :: es.toList
  | .readCarryover r => [r]
  | .loadVerdict f os => f :: byte os.length :: os
  | .readVerdict f n => [f, n]
  | .stepWindow f l => [f, l]
  | .stepWrite ss => byte ss.length :: ss.flatMap RawStep.bytes
  | .stepRead i n => [i, n]
  | .setUtility u c o g => [u, c, o, g]
  | .utilityStatus => [0]
  | .admitVisit b f p ps => b :: bytes3 f.toNat ++ p :: byte ps.length :: ps
  | .depart b => [b]
  | .bayClear b => [b]
  | .assign b i h m l c => [b, i, h, m, l, c]
  | .extend b i n => [b, i, n]
  | .abort b => [b]
  | .hold b => [b]
  | .resume b => [b]
  | .orderFill b i c t => [b, i, c] ++ bytes2 t.toNat
  | .cancelFill b i => [b, i]
  | .ruleReferral b i r c => [b, i, r, c]
  | .certRead n => [n]
  | .certRetire k => [k]
  | .auditRelease => [0]
  | .bayStatus b => [b]
  | .compartmentStatus b i => [b, i]
  | .mapRead b r0 r1 c0 c1 => [b, r0, r1, c0, c1]
  | .pendingRead s => [s]
  | .pendingClear s ks => s :: byte ks.length :: ks

/-- What the link unit makes of a kind and a body by its kind check and its length check (R171). -/
inductive Reading where
  | unknownKind
  | badLength
  | request (r : Request)
  deriving DecidableEq, Repr

/-- A kind and a body read as a request (R171, R184): the kind, then the length, which a count field fixes where there is one. -/
def readRequest (kind : Byte) (body : List Byte) : Reading :=
  match kind.toNat with
  | 0x01 => match body with
    | [_] => .request .ident
    | _ => .badLength
  | 0x02 => match body with
    | [m] => .request (.setMode m)
    | _ => .badLength
  | 0x03 => match body with
    | [_] => .request .restart
    | _ => .badLength
  | 0x04 => match body with
    | [o, v, m1, m0] => .request (.linkSetup o v (BitVec.ofNat 16 (nat2 m1 m0)))
    | _ => .badLength
  | 0x05 => match body with
    | [a, b, c, d] => .request (.setClock (BitVec.ofNat 32 (nat4 a b c d)))
    | _ => .badLength
  | 0x06 => match body with
    | [a, b, c, d, e] => .request (.setTiming a b c d e)
    | _ => .badLength
  | 0x07 => match body with
    | [p, h] => .request (.setAudit p h)
    | _ => .badLength
  | 0x08 => match body with
    | [a, b, c, d] => .request (.setCertBase (BitVec.ofNat 32 (nat4 a b c d)))
    | _ => .badLength
  | 0x09 => match body with
    | [o, m] => .request (.mark o m)
    | _ => .badLength
  | 0x10 => match body with
    | r :: es => if h : es.toArray.size = 16 then .request (.loadCarryover r ⟨es.toArray, h⟩) else .badLength
    | _ => .badLength
  | 0x11 => match body with
    | [r] => .request (.readCarryover r)
    | _ => .badLength
  | 0x12 => match body with
    | f :: n :: os => if os.length = n.toNat then .request (.loadVerdict f os) else .badLength
    | _ => .badLength
  | 0x13 => match body with
    | [f, n] => .request (.readVerdict f n)
    | _ => .badLength
  | 0x14 => match body with
    | [f, l] => .request (.stepWindow f l)
    | _ => .badLength
  | 0x15 => match body with
    | n :: rest => if rest.length = 16 * n.toNat then
        match rawSteps? rest with
        | some ss => .request (.stepWrite ss)
        | none => .badLength
      else .badLength
    | _ => .badLength
  | 0x16 => match body with
    | [i, n] => .request (.stepRead i n)
    | _ => .badLength
  | 0x18 => match body with
    | [u, c, o, g] => .request (.setUtility u c o g)
    | _ => .badLength
  | 0x19 => match body with
    | [_] => .request .utilityStatus
    | _ => .badLength
  | 0x20 => match body with
    | b :: f2 :: f1 :: f0 :: p :: n :: ps =>
      if ps.length = n.toNat then .request (.admitVisit b (BitVec.ofNat 24 (nat3 f2 f1 f0)) p ps) else .badLength
    | _ => .badLength
  | 0x21 => match body with
    | [b] => .request (.depart b)
    | _ => .badLength
  | 0x22 => match body with
    | [b] => .request (.bayClear b)
    | _ => .badLength
  | 0x23 => match body with
    | [b, i, h, m, l, c] => .request (.assign b i h m l c)
    | _ => .badLength
  | 0x24 => match body with
    | [b, i, n] => .request (.extend b i n)
    | _ => .badLength
  | 0x25 => match body with
    | [b] => .request (.abort b)
    | _ => .badLength
  | 0x26 => match body with
    | [b] => .request (.hold b)
    | _ => .badLength
  | 0x27 => match body with
    | [b] => .request (.resume b)
    | _ => .badLength
  | 0x28 => match body with
    | [b, i, c, t1, t0] => .request (.orderFill b i c (BitVec.ofNat 16 (nat2 t1 t0)))
    | _ => .badLength
  | 0x29 => match body with
    | [b, i] => .request (.cancelFill b i)
    | _ => .badLength
  | 0x2A => match body with
    | [b, i, r, c] => .request (.ruleReferral b i r c)
    | _ => .badLength
  | 0x30 => match body with
    | [n] => .request (.certRead n)
    | _ => .badLength
  | 0x31 => match body with
    | [k] => .request (.certRetire k)
    | _ => .badLength
  | 0x32 => match body with
    | [_] => .request .auditRelease
    | _ => .badLength
  | 0x38 => match body with
    | [b] => .request (.bayStatus b)
    | _ => .badLength
  | 0x39 => match body with
    | [b, i] => .request (.compartmentStatus b i)
    | _ => .badLength
  | 0x3A => match body with
    | [b, r0, r1, c0, c1] => .request (.mapRead b r0 r1 c0 c1)
    | _ => .badLength
  | 0x3B => match body with
    | [s] => .request (.pendingRead s)
    | _ => .badLength
  | 0x3C => match body with
    | s :: n :: ks => if ks.length = n.toNat then .request (.pendingClear s ks) else .badLength
    | _ => .badLength
  | _ => .unknownKind

/-- The frame a request is sent in. -/
def Request.frame (r : Request) (tag : Byte) : Frame := { kind := r.kind, tag := tag, body := r.body }

end Sys2Proof.Machine
end

