-- ==== Sys2Proof/Machine/Tables.lean ====
section
/-! DEFINITION. Machine/Tables.lean: the requests on the carry-over table (R28, R30) and on the step store (R44 to R48). -/

namespace Sys2Proof.Machine

/-! ## Carry-over table -/

/-- A row named in a request: a prior class or UNKNOWN (R28). -/
def row? (x : Byte) : Option (Fin 17) := (prior? x).map rowIx
/-- A row's sixteen entries as bytes. -/
def rowBytes (r : Vector CarryEntry 16) : List Byte := r.toList.map fun e => byte e.code
/-- Sixteen entry bytes read, or `none` when one of them is no entry (R28). -/
def carryRow? (entries : Vector Byte 16) : Option (Vector CarryEntry 16) :=
  (all? carryEntry? entries.toList).bind fun es => if h : es.toArray.size = 16 then some ⟨es.toArray, h⟩ else none

/-- LOAD_CARRYOVER (R28): the row is replaced whole, and the reply carries the row it replaced. -/
def answerLoadCarryover (row : Byte) (entries : Vector Byte 16) (s : State) : State × Reply :=
  match row? row, carryRow? entries with
  | some r, some new => ({ s with carry := s.carry.set r new }, .ok (row :: rowBytes s.carry[r]))
  | _, _ => (s, .refuse .badValue)

/-- READ_CARRYOVER (R30). -/
def answerReadCarryover (row : Byte) (s : State) : State × Reply :=
  match row? row with
  | some r => (s, .ok (row :: rowBytes s.carry[r]))
  | none => (s, .refuse .badValue)

/-! ## Step store -/

/-- The window and the pointer as replies carry them. -/
def StepStore.windowBytes (t : StepStore) : List Byte := [byte t.first.val, byte t.last.val, byte t.pointer.val]

/-- STEP_WINDOW (R44). -/
def answerStepWindow (first last : Byte) (s : State) : State × Reply :=
  if first.toNat ≤ last.toNat then
    let t := { s.store with first := stepIx first, last := stepIx last, pointer := stepIx first }
    ({ s with store := t }, .ok t.windowBytes)
  else (s, .refuse .badValue)

/-- The pointer moved one entry on, from the window's last index back to its first (R45). -/
def StepStore.advance (t : StepStore) : StepStore :=
  { t with pointer := if t.pointer = t.last then t.first else t.pointer + 1 }

/-- One descriptor taken at the pointer (R45): written, or dropped where the entry is pinned (R46). The second component says
whether it was written. -/
def StepStore.writeOne (t : StepStore) (d : Descriptor) : StepStore × Bool :=
  if t.pinned t.pointer then (t.advance, false)
  else (({ t with entries := t.entries.set t.pointer d } : StepStore).advance, true)

/-- Descriptors taken one after another, with the number written. -/
def StepStore.writeAll : StepStore → List Descriptor → StepStore × Nat
  | t, [] => (t, 0)
  | t, d :: ds =>
    let x := t.writeOne d
    let y := x.1.writeAll ds
    (y.1, y.2 + (if x.2 then 1 else 0))

/-- STEP_WRITE (R42, R45): every descriptor is checked before any is written. -/
def answerStepWrite (steps : List RawStep) (s : State) : State × Reply :=
  if steps.length = 0 ∨ 8 < steps.length then (s, .refuse .badValue)
  else match all? RawStep.read steps with
    | none => (s, .refuse .badValue)
    | some ds =>
      let x := s.store.writeAll ds
      ({ s with store := x.1 }, .ok [byte x.2, byte (ds.length - x.2), byte x.1.pointer.val])

/-- One entry of a STEP_READ reply (R48, 11.4). -/
def StepStore.entryBytes (t : StepStore) (i : StepIx) : List Byte :=
  [byte i.val, flag (t.pinned i)] ++ t.entries[i].bytes

/-- The indices a STEP_READ lists: they run round the whole store (R48). -/
def readIndices (first : StepIx) (count : Nat) : List StepIx := (List.range count).map fun i => first + Fin.ofNat 256 i

/-- STEP_READ (R48). -/
def answerStepRead (index count : Byte) (s : State) : State × Reply :=
  if 1 ≤ count.toNat ∧ count.toNat ≤ 8 then
    (s, .ok (count :: ((readIndices (stepIx index) count.toNat).flatMap s.store.entryBytes ++ s.store.windowBytes)))
  else (s, .refuse .badValue)

end Sys2Proof.Machine
end

