-- ==== Sys2Proof/Machine/Utilities.lean ====
section
/-! DEFINITION. Machine/Utilities.lean: SET_UTILITY, UTILITY_STATUS, the fault lines, and the loss and return of service (R117,
R118, R122, R123, R125, R127, R128). -/

namespace Sys2Proof.Machine

/-- A lane that loses its grant (R90): SUSPENDED, and for a FLUSH with its delivered count at 0. -/
def State.suspend (s : State) (b : Bay) : State :=
  let l := s.lane b
  let again : Bool := l.service == some .wash && (s.stepOf b).kind == .flush
  s.setLane b { l with st := .suspended, delivered := if again then 0 else l.delivered }

/-- The grants made kept claims, each in its place in the queue (R123 item 1), in the order in which they were granted; one whose saturated
number and priority a waiting claim has too goes behind that claim (R119 item 3). Both are the model's choice (log 32). -/
def Util.lose (x : Util) : Util :=
  { x with claims := x.grants.foldl (fun q c => insertClaim { c with kept := true } q) x.claims, grants := [] }

/-- A utility that went out of service (R123): kept claims, its holders suspended, and UTILITY_LOST raised. -/
def State.loseUtility (s : State) (u : UtilId) (plantFault : Bool) : State :=
  let holders := (s.util u).grants
  let s1 := s.setUtil u (s.util u).lose
  let s2 := holders.foldl (fun t c => t.suspend c.lane) s1
  s2.raiseYard (.utilityLost u plantFault holders.length)

/-- A utility's record stored whole, with the effect of R117 on its service state: out of service, back to service (R125, the grants
made counted for UTILITY_BACK, log 9), or neither. The second component is the tasks that follow. -/
def State.storeService (s : State) (u : UtilId) (x : Util) (plantFault : Bool) : State × List Task :=
  let was := (s.util u).inService
  let s1 := s.setUtil u x
  match was, x.inService with
  | true, false => (s1.loseUtility u plantFault, [])
  | false, true => (s1.setUtil u { x with returning := some 0 }, [.judge u, .back u])
  | true, true => (s1, [])
  | false, false => (s1, [])

/-- The plant-fault flag set from its line (R118). -/
def State.putFault (s : State) (u : UtilId) (v : Bool) : State :=
  let x := s.storeService u { s.util u with fault := v } true
  x.1.settle x.2

/-- A utility's claim or grant as sent (11.5). -/
def Claim.bytes (c : Claim) (grant : Bool) : List Byte :=
  [byte (bayNum c.lane), byte ((if c.urgent then 1 else 0) + (if c.kept && !grant then 2 else 0))] ++ bytes4 c.arrival

/-- A utility's grants by ascending lane number (R128). -/
def Util.grantsByLane (x : Util) : List Claim := allBays.flatMap fun b => x.grants.filter fun c => c.lane == b

/-- The utility record (11.5). -/
def State.utilBytes (s : State) (u : UtilId) : List Byte :=
  let x := s.util u
  [byte (utilCode u), byte x.capacity,
    byte ((if x.offline then 1 else 0) + (if x.fault then 2 else 0) + (if x.inService then 4 else 0)), byte (cargoCode x.cargo)] ++
  bytes4 x.counter ++ [byte x.grants.length, byte x.claims.length] ++
  x.grantsByLane.flatMap (·.bytes true) ++ x.claims.flatMap (·.bytes false)

/-- UTILITY_STATUS (R128). -/
def answerUtilityStatus (s : State) : State × Reply :=
  (s, { result := .ok, fields := allUtils.flatMap s.utilBytes, prior := false,
        limited := allUtils.any fun u => (s.util u).counter == Config.max32 })

/-- Whether SET_UTILITY must refuse a class change (R127 item 3). -/
def Util.classFixed (x : Util) (u : UtilId) (cargo : Option Cargo) : Bool :=
  isFillLine u && !(cargo == x.cargo) && !(x.grants.isEmpty && x.claims.isEmpty)

/-- An accepted SET_UTILITY (R127): cargo class, then capacity, then the offline flag. A capacity raised on a utility that stays in
service has its queue judged (R122); a return to service is judged at the new capacity. -/
def State.setUtility (s : State) (u : UtilId) (capacity : Nat) (offline : Bool) (cargo : Option Cargo) : State :=
  let x := s.util u
  let y := { x with cargo := cargo, capacity := capacity, offline := offline }
  let z := s.storeService u y false
  let raised : Bool := x.inService && y.inService && decide (x.capacity < capacity)
  z.1.settle (if raised then [.judge u] else z.2)

/-- SET_UTILITY (R127). Its reply is the utility's record afterwards; Limited follows its arrival counter (log 23). -/
def answerSetUtility (utility capacity offline cargo : Byte) (s : State) : State × Reply :=
  match util? utility, bool? offline, cargoOrNone? cargo with
  | some u, some off, some c =>
    if 6 < capacity.toNat then (s, .refuse .badValue)
    else if isFillLine u = false ∧ c.isSome = true then (s, .refuse .badValue)
    else if (s.util u).classFixed u c then (s, .refuse .wrongState)
    else
      let s1 := s.setUtility u capacity.toNat off c
      (s1, { result := .ok, fields := s1.utilBytes u, prior := false, limited := (s1.util u).counter == Config.max32 })
  | _, _, _ => (s, .refuse .badValue)

/-- The fault line rises (R118): the pin and the flag. -/
def State.faultRise (s : State) (u : UtilId) : State := s.putFault u true
/-- The fault line falls (R118). -/
def State.faultFall (s : State) (u : UtilId) : State := s.putFault u false

end Sys2Proof.Machine
end

