-- ==== Sys2Proof/Machine/Links.lean ====
section
/-! DEFINITION. Machine/Links.lean: the link unit. Frame assembly, the receive buffer, taking a request, the reply in hand, REJECT, and
the choice of the next frame to send (R168 to R173). -/

namespace Sys2Proof.Machine

/-! ## Links and their state -/

/-- A host link. -/
def State.link (s : State) (l : LinkId) : Link :=
  match l with
  | .office => s.office
  | .panel => s.panel
/-- A host link replaced. -/
def State.setLink (s : State) (l : LinkId) (x : Link) : State :=
  match l with
  | .office => { s with office := x }
  | .panel => { s with panel := x }

/-- A REJECT made, or folded into the one pending (R169). A fresh one was made before any reply still to come, and after the reply
that waits, if one does. -/
def Link.fail (x : Link) (reason : RejectReason) : Link :=
  match x.reject with
  | some r => { x with reject := some { reason := reason, lost := satAdd Config.max8 r.lost 1 } }
  | none => { x with reject := some { reason := reason, lost := 1 }, rejectFirst := x.reply.isNone }

/-- The receiver hunting, its gap timer stopped (R168). -/
def Link.hunt (x : Link) : Link := { x with assembly := .hunting, gapTimer := false }

/-- A request taken and its reply made (R170, R172): in hand until the reply's last byte is out. -/
def Link.answer (x : Link) (reply : Frame) : Link :=
  { x with inHand := true, reply := some reply, rejectFirst := x.reject.isSome }

/-- The transmitter of a link chooses its next frame, when it is free (R173), from the reply and the REJECT. -/
def Link.choose (x : Link) : Link :=
  match x.sending with
  | some _ => x
  | none => match x.reply, x.reject with
    | none, none => x
    | some f, none => { x with sending := some (.reply f), reply := none }
    | none, some r => { x with sending := some (.reject r), reject := none, rejectFirst := false }
    | some f, some r =>
      if x.rejectFirst then { x with sending := some (.reject r), reject := none, rejectFirst := false }
      else { x with sending := some (.reply f), reply := none }

/-- The office transmitter's choice of a notice, after its reply and REJECT (R161, R173). -/
def State.chooseNotice (s : State) : State :=
  match s.office.sending with
  | some _ => s
  | none => match s.notices.take with
    | none => s
    | some (n, u) => (s.setLink .office { s.office with sending := some (.notice n) }).setNotices u

/-- Both transmitters' choice (R173), made at the end of every event (log 6). -/
def State.choose (s : State) : State :=
  ((s.setLink .office s.office.choose).setLink .panel s.panel.choose).chooseNotice

/-- An event taken by the part. While the reset line is held the part takes none (R183, log 12). -/
def State.live (s : State) (f : State → State) : State := if s.pins.resetHeld then s else (f s).choose

/-! ## Requests at their owners (R171) -/

/-- A request handed to its owner. -/
def answer (r : Request) (s : State) : State × Reply :=
  match r with
  | .ident => answerIdent s
  | .setMode m => answerSetMode m s
  | .restart => answerRestart s
  | .linkSetup o v m => answerLinkSetup o v m s
  | .setClock c => answerSetClock c s
  | .setTiming a b c d e => answerSetTiming a b c d e s
  | .setAudit p h => answerSetAudit p h s
  | .setCertBase n => answerSetCertBase n s
  | .mark o m => answerMark o m s
  | .loadCarryover r es => answerLoadCarryover r es s
  | .readCarryover r => answerReadCarryover r s
  | .loadVerdict f os => answerLoadVerdict f os s
  | .readVerdict f n => answerReadVerdict f n s
  | .stepWindow f l => answerStepWindow f l s
  | .stepWrite ss => answerStepWrite ss s
  | .stepRead i n => answerStepRead i n s
  | .setUtility u c o g => answerSetUtility u c o g s
  | .utilityStatus => answerUtilityStatus s
  | .admitVisit b f p ps => answerAdmit b f p ps s
  | .depart b => answerDepart b s
  | .bayClear b => answerBayClear b s
  | .assign b i h m l c => answerAssign b i h m l c s
  | .extend b i n => answerExtend b i n s
  | .abort b => answerAbort b s
  | .hold b => answerHold b s
  | .resume b => answerResume b s
  | .orderFill b i c t => answerOrderFill b i c t s
  | .cancelFill b i => answerCancelFill b i s
  | .ruleReferral b i r c => answerRuleReferral b i r c s
  | .certRead n => answerCertRead n s
  | .certRetire k => answerCertRetire k s
  | .auditRelease => answerAuditRelease s
  | .bayStatus b => answerBayStatus b s
  | .compartmentStatus b i => answerCompartmentStatus b i s
  | .mapRead b r0 r1 c0 c1 => answerMapRead b r0 r1 c0 c1 s
  | .pendingRead sc => answerPendingRead sc s
  | .pendingClear sc ks => answerPendingClear sc ks s

/-- The permission check (R171 item 2). -/
def permitted (l : LinkId) (kind : Byte) : Bool := !(l == .panel && officeOnly kind)

/-- The three checks of the link unit and then the owner (R171): kind, permission, length. -/
def State.serve (s : State) (l : LinkId) (kind : Byte) (reading : Reading) : State × Reply :=
  match reading with
  | .unknownKind => (s, .refuse .unknownKind)
  | .badLength => (s, .refuse (if permitted l kind then .badLength else .notPermitted))
  | .request r => if permitted l kind then answer r s else (s, .refuse .notPermitted)

/-- The reply to a request taken on a link, built whole from the state the request left, and in hand there (R170, R172). -/
def State.giveReply (s : State) (l : LinkId) (kind tag : Byte) (r : Reply) : State :=
  s.setLink l ((s.link l).answer (replyFrame s kind tag r))

/-- A frame taken from the buffer (R170 to R172): served and answered. -/
def State.takeFrame (s : State) (l : LinkId) (kind tag : Byte) (reading : Reading) : State :=
  let x := s.serve l kind reading
  x.1.giveReply l kind tag x.2

/-- A complete frame with a good check and a kind below 0x40 (R170): lost where the buffer holds a frame, buffered while a request is
in hand, else taken at once. -/
def State.arrive (s : State) (l : LinkId) (f : Frame) (reading : Reading) : State :=
  let x := s.link l
  if x.buffer.isSome then s.setLink l (x.fail .overrun)
  else if x.inHand then s.setLink l { x with buffer := some f }
  else s.takeFrame l f.kind f.tag reading

/-- A request's frame arriving. -/
def State.request (s : State) (l : LinkId) (tag : Byte) (r : Request) : State :=
  s.live fun t => t.arrive l (r.frame tag) (.request r)

/-! ## Bytes of frames (R168, R184, 11.6) -/

/-- One bit of the check's register. -/
def crcBit (c : BitVec 16) : BitVec 16 := if c.getMsbD 0 then (c <<< 1) ^^^ 0x1021 else c <<< 1
/-- One byte taken into the register, most significant bit first. -/
def crcByte (c : BitVec 16) (b : Byte) : BitVec 16 :=
  crcBit (crcBit (crcBit (crcBit (crcBit (crcBit (crcBit (crcBit (c ^^^ ((b.setWidth 16) <<< 8)))))))))
/-- The check of a run of bytes: the register starts at 0xFFFF and is not inverted. -/
def crc16 (bs : List Byte) : BitVec 16 := bs.foldl crcByte 0xFFFF
/-- The check's two bytes, high byte first. -/
def crcBytes (bs : List Byte) : Byte × Byte :=
  let c := crc16 bs
  (byte (c.toNat / 256), byte c.toNat)

/-- A frame's length byte: kind, tag and body. -/
def Frame.lengthByte (f : Frame) : Byte := byte (f.body.length + 2)
/-- A frame's content bytes. -/
def Frame.content (f : Frame) : List Byte := f.kind :: f.tag :: f.body
/-- A frame's bytes on the wire (R168). -/
def Frame.wire (f : Frame) : List Byte :=
  let c := crcBytes (f.lengthByte :: f.content)
  [0x5E, f.lengthByte] ++ f.content ++ [c.1, c.2]

/-- A REJECT's frame (R169, 11.6). -/
def Reject.frame (r : Reject) : Frame := { kind := 0xFF, tag := 0, body := [byte r.reason.code, byte r.lost] }
/-- A notice's frame (11.6). -/
def Notice.frame (n : Notice) : Frame :=
  { kind := 0x40, tag := 0, body := [byte n.scope.val, byte n.event.kind.code, byte n.count] ++ n.event.bytes }
/-- The frame on the wire, byte for byte. -/
def Sending.frame (x : Sending) : Frame :=
  match x with
  | .reply f => f
  | .reject r => r.frame
  | .notice n => n.frame

/-- A complete frame judged (R168 to R170): its check, then its kind, then the buffer. -/
def State.judgeFrame (s : State) (l : LinkId) (len : Byte) (content : List Byte) (high low : Byte) : State :=
  let t := s.setLink l (s.link l).hunt
  if crcBytes (len :: content) = (high, low) then
    match content with
    | kind :: tag :: body =>
      if kind.toNat < 0x40 then t.arrive l { kind := kind, tag := tag, body := body } (readRequest kind body)
      else t.setLink l ((t.link l).fail .badKind)
    | _ => t
  else t.setLink l ((t.link l).fail .badCrc)

/-- A byte at a link's receiver (R168's table). -/
def State.linkByte (s : State) (l : LinkId) (b : Byte) : State :=
  let x := s.link l
  match x.assembly with
  | .hunting => if b = 0x5E then s.setLink l { x with assembly := .length, gapTimer := true } else s
  | .length =>
    if 3 ≤ b.toNat ∧ b.toNat ≤ 250 then s.setLink l { x with assembly := .content b [], gapTimer := true }
    else s.setLink l (x.hunt.fail .badLength)
  | .content len got =>
    let got' := got ++ [b]
    s.setLink l { x with assembly := if len.toNat ≤ got'.length then .check len got' [] else .content len got', gapTimer := true }
  | .check len content got =>
    match got with
    | [] => s.setLink l { x with assembly := .check len content [b], gapTimer := true }
    | high :: _ => s.judgeFrame l len content high b

/-- The gap timer's expiry (R168), with a frame partly received. -/
def State.linkGap (s : State) (l : LinkId) : State :=
  let x := s.link l
  if x.assembly = .hunting ∨ x.gapTimer = false then s else s.setLink l (x.hunt.fail .gap)

/-- An error's REJECT reason. -/
def rejectReasonOf : FrameError → RejectReason
  | .badLength => .badLength
  | .badCrc => .badCrc
  | .badKind => .badKind
  | .overrun => .overrun

/-- A frame ended by an error (R169). OVERRUN arises only where the buffer holds a frame (R170, log 24). -/
def State.frameError (s : State) (l : LinkId) (e : FrameError) : State :=
  let x := s.link l
  if e = .overrun ∧ x.buffer.isNone then s else s.setLink l (x.hunt.fail (rejectReasonOf e))

/-- The link with nothing on the wire; after a reply, no request in hand (R170). -/
def Link.sent (x : Link) : Link :=
  match x.sending with
  | some (.reply _) => { x with sending := none, inHand := false }
  | some (.reject _) => { x with sending := none }
  | some (.notice _) => { x with sending := none }
  | none => x

/-- A frame's last byte leaves (R170, R173): after a reply, the link takes the frame in its buffer. -/
def State.frameSent (s : State) (l : LinkId) : State :=
  let x := (s.link l).sent
  match x.buffer with
  | some f =>
    if x.inHand then s.setLink l x
    else (s.setLink l { x with buffer := none }).takeFrame l f.kind f.tag (readRequest f.kind f.body)
  | none => s.setLink l x

end Sys2Proof.Machine
end

