-- ==== Sys2Proof/Machine/Ports.lean ====
section
/-! DEFINITION. Machine/Ports.lean: the bay ports' receivers and transmitters (R186, 11.7). -/

namespace Sys2Proof.Machine

/-- The payload length of a node's message type; `none` for a type that is not one of 0x01 to 0x06. -/
def payloadLength? (type : Byte) : Option Nat :=
  match type.toNat with
  | 0x01 => some 3
  | 0x02 => some 1
  | 0x03 => some 0
  | 0x04 => some 0
  | 0x05 => some 0
  | 0x06 => some 1
  | _ => none

/-- A message from a node. -/
inductive PortMessage where
  | report (r : Report)
  | seated (index : Nat)
  | lifted
  | drainClear
  | highLevel
  | probe (grade : Grade)
  deriving DecidableEq, Repr

/-- A type and a payload read as a message; `none` where a value lies outside its range. -/
def portMessage? (type : Byte) (payload : List Byte) : Option PortMessage :=
  match type.toNat, payload with
  | 0x01, [flow, fill, temp] => (report? flow fill temp).map .report
  | 0x02, [k] => (seatedIndex? k).map .seated
  | 0x03, [] => some .lifted
  | 0x04, [] => some .drainClear
  | 0x05, [] => some .highLevel
  | 0x06, [g] => (grade? g).map .probe
  | _, _ => none

/-- A message handed to the bay's lane whole (R66). -/
def State.takeMessage (s : State) (b : Bay) (m : PortMessage) : State :=
  match m with
  | .report r => s.takeReport b r
  | .seated k => s.takeSeated b k
  | .lifted => s.takeLifted b
  | .drainClear => s.takeDrainClear b
  | .highLevel => s.takeHighLevel b
  | .probe g => s.takeProbe b g

/-- A message handed over where its values are in range; dropped otherwise, with no effect on the lane (R186). -/
def State.takeMessage? (s : State) (b : Bay) (m : Option PortMessage) : State :=
  match m with
  | none => s
  | some m => s.takeMessage b m

/-- The bytes sum to 0 modulo 256 (11.7). -/
def sumsToZero (bs : List Byte) : Bool := (bs.foldl (· + ·) 0 : Byte) == 0

/-- A bay port's partial message replaced. -/
def State.setPartway (s : State) (b : Bay) (p : Option (List Byte)) : State :=
  { s with ports := s.ports.set b { s.port b with partway := p } }

/-- A byte at a bay port's receiver (R186): 0x7A, the type, the payload, the check. -/
def State.portByte (s : State) (b : Bay) (x : Byte) : State :=
  match (s.port b).partway with
  | none => if x = 0x7A then s.setPartway b (some []) else s
  | some [] => if (payloadLength? x).isSome then s.setPartway b (some [x]) else s.setPartway b none
  | some (type :: payload) =>
    if payload.length < (payloadLength? type).getD 0 then s.setPartway b (some (type :: (payload ++ [x])))
    else
      let t := s.setPartway b none
      if sumsToZero (type :: (payload ++ [x])) then t.takeMessage? b (portMessage? type payload) else t

/-- Four character times without a byte (R186): a message partly received is dropped. -/
def State.portTimeout (s : State) (b : Bay) : State := s.setPartway b none

/-- An orders message has gone out (R186): where orders changed meanwhile, the orders as they stand now go out. -/
def State.ordersSent (s : State) (b : Bay) : State :=
  let p := s.port b
  match p.sending with
  | none => s
  | some _ =>
    { s with ports := s.ports.set b { p with sending := if p.due then some (s.lane b).orders else none, due := false } }

/-- A bay orders message's bytes (11.7). -/
def Orders.bytes (o : Orders) : List Byte :=
  let payload := [byte o.lance.code, orAbsent (o.supply.map WashUtil.code), flag o.drain, flag o.fill, flag o.probe]
  [0x7A, 0x11] ++ payload ++ [0 - (0x11 :: payload).foldl (· + ·) 0]

end Sys2Proof.Machine
end

