-- ==== Sys2Proof/Machine/Plant.lean ====
section
/-! DEFINITION. Machine/Plant.lean: the yard lines' pins and the reset line (R118, R155, R177, R183). -/

namespace Sys2Proof.Machine

/-- The stop line's level at its pin; the pin follows the line also while the reset line is held (log 12). -/
def State.stopPin (s : State) (v : Bool) : State := { s with pins := { s.pins with stop := v } }
/-- A fault line's level at its pin. -/
def State.faultPin (s : State) (u : UtilId) (v : Bool) : State :=
  { s with pins := { s.pins with faults := s.pins.faults.set (utilIx u) v } }

/-- A port while the reset line is held: hunting, nothing sent until the release (R186). -/
def Port.held : Port := { partway := none, sending := none, due := false }

/-- The reset line taken (R183): every block at its reset-line values. Pins, the queue of commands and the free value's counter are
not the part's registers; the office rate holds until the straps are read at the release (R174). -/
def State.resetAssert (s : State) : State :=
  { State.reset with
    pending := s.pending, freeCount := s.freeCount, pins := { s.pins with resetHeld := true }, officeRate := s.officeRate,
    ports := Vector.replicate 6 Port.held }

/-- The part as it begins work when the reset line is released (R183): every block at its reset-line values, the straps, the stop
line and the fault lines read, and the reset orders going out (R186). -/
def State.released (s : State) (straps : Fin 8) : State :=
  { State.reset with
    pending := s.pending, freeCount := s.freeCount, pins := { s.pins with resetHeld := false },
    officeRate := rateOfStraps straps, stopLevel := s.pins.stop,
    utils := Vector.ofFn fun i => Util.reset defaultCapacities[i] s.pins.faults[i] }

/-- The reset line released. Released while it is not held, it has no effect (log 13). -/
def State.resetRelease (s : State) (straps : Fin 8) : State := if s.pins.resetHeld then s.released straps else s

end Sys2Proof.Machine
end

