-- ==== Sys2Proof/Machine/Rows.lean ====
section
/-! DEFINITION. Machine/Rows.lean: the meaning of every row of spec/opcode_table.json, one definition per row over the shared operations. -/

namespace Sys2Proof.Machine

/-- What a command's meaning answers. -/
abbrev Answer := Host.Outcome State Fault Refusal

/-- The kind of the entry at the head of a lane's queue. -/
def State.headKind (s : State) (b : Bay) : Option Service := (s.lane b).queue.head?.map QEntry.kind

/-- A row named for what a bay report brings about (log 4). -/
def State.reportRow (s : State) (b : Bay) (flow fill temp : Byte) (e : ReportEnd) : State :=
  match report? flow fill temp with
  | none => s
  | some r => s.takeReportFor b r e

/-- IDENT (R180). -/
def execIdent (l : LinkId) (tag : Byte) (s : State) : Answer :=
  .next (s.request l tag .ident)

/-- SET_MODE (R176). -/
def execSetMode (l : LinkId) (tag mode : Byte) (s : State) : Answer :=
  .next (s.request l tag (.setMode mode))

/-- RESTART, office-only (R182). -/
def execRestart (l : LinkId) (tag : Byte) (s : State) : Answer :=
  .next (s.request l tag .restart)

/-- LINK_SETUP, office-only (R162, R174). -/
def execLinkSetup (l : LinkId) (tag output showMasked : Byte) (masks : BitVec 16) (s : State) : Answer :=
  .next (s.request l tag (.linkSetup output showMasked masks))

/-- SET_CLOCK, office-only (R155). -/
def execSetClock (l : LinkId) (tag : Byte) (clock : BitVec 32) (s : State) : Answer :=
  .next (s.request l tag (.setClock clock))

/-- SET_TIMING, office-only (R181). -/
def execSetTiming (l : LinkId) (tag seat cold drain starve fillStall : Byte) (s : State) : Answer :=
  .next (s.request l tag (.setTiming seat cold drain starve fillStall))

/-- SET_AUDIT, office-only (R153). -/
def execSetAudit (l : LinkId) (tag period highWater : Byte) (s : State) : Answer :=
  .next (s.request l tag (.setAudit period highWater))

/-- SET_CERT_BASE, office-only (R154). -/
def execSetCertBase (l : LinkId) (tag : Byte) (number : BitVec 32) (s : State) : Answer :=
  .next (s.request l tag (.setCertBase number))

/-- MARK with operation TEST (R178). -/
def execMarkTest (l : LinkId) (tag mark : Byte) (s : State) : Answer :=
  .next (s.request l tag (.mark MarkOp.test.code mark))

/-- MARK with operation SET (R178, R179). -/
def execMarkSet (l : LinkId) (tag mark : Byte) (s : State) : Answer :=
  .next (s.request l tag (.mark MarkOp.set.code mark))

/-- MARK with operation CLEAR (R178, R179). -/
def execMarkClear (l : LinkId) (tag mark : Byte) (s : State) : Answer :=
  .next (s.request l tag (.mark MarkOp.clear.code mark))

/-- MARK with operation FLIP (R178, R179). -/
def execMarkFlip (l : LinkId) (tag mark : Byte) (s : State) : Answer :=
  .next (s.request l tag (.mark MarkOp.flip.code mark))

/-- LOAD_CARRYOVER, office-only (R28). -/
def execLoadCarryover (l : LinkId) (tag row : Byte) (entries : Vector Byte 16) (s : State) : Answer :=
  .next (s.request l tag (.loadCarryover row entries))

/-- READ_CARRYOVER (R30). -/
def execReadCarryover (l : LinkId) (tag row : Byte) (s : State) : Answer :=
  .next (s.request l tag (.readCarryover row))

/-- LOAD_VERDICT, office-only (R110). -/
def execLoadVerdict (l : LinkId) (tag first : Byte) (outcomes : List Byte) (s : State) : Answer :=
  .next (s.request l tag (.loadVerdict first outcomes))

/-- READ_VERDICT (R111). -/
def execReadVerdict (l : LinkId) (tag first count : Byte) (s : State) : Answer :=
  .next (s.request l tag (.readVerdict first count))

/-- STEP_WINDOW, office-only (R44). -/
def execStepWindow (l : LinkId) (tag first last : Byte) (s : State) : Answer :=
  .next (s.request l tag (.stepWindow first last))

/-- STEP_WRITE, office-only (R45). -/
def execStepWrite (l : LinkId) (tag : Byte) (steps : List RawStep) (s : State) : Answer :=
  .next (s.request l tag (.stepWrite steps))

/-- STEP_READ (R48). -/
def execStepRead (l : LinkId) (tag index count : Byte) (s : State) : Answer :=
  .next (s.request l tag (.stepRead index count))

/-- SET_UTILITY, office-only (R127). -/
def execSetUtility (l : LinkId) (tag utility capacity offline cargo : Byte) (s : State) : Answer :=
  .next (s.request l tag (.setUtility utility capacity offline cargo))

/-- UTILITY_STATUS (R128). -/
def execUtilityStatus (l : LinkId) (tag : Byte) (s : State) : Answer :=
  .next (s.request l tag .utilityStatus)

/-- ADMIT (R7, R8). -/
def execAdmit (l : LinkId) (tag bay : Byte) (fleet : BitVec 24) (priority : Byte) (priors : List Byte) (s : State) : Answer :=
  .next (s.request l tag (.admitVisit bay fleet priority priors))

/-- DEPART (R22). -/
def execDepart (l : LinkId) (tag bay : Byte) (s : State) : Answer :=
  .next (s.request l tag (.depart bay))

/-- BAY_CLEAR, office-only (R23). -/
def execBayClear (l : LinkId) (tag bay : Byte) (s : State) : Answer :=
  .next (s.request l tag (.bayClear bay))

/-- ASSIGN (R9). -/
def execAssign (l : LinkId) (tag bay index head chainMode last programClass : Byte) (s : State) : Answer :=
  .next (s.request l tag (.assign bay index head chainMode last programClass))

/-- EXTEND (R56). -/
def execExtend (l : LinkId) (tag bay index newLast : Byte) (s : State) : Answer :=
  .next (s.request l tag (.extend bay index newLast))

/-- ABORT (R84). -/
def execAbort (l : LinkId) (tag bay : Byte) (s : State) : Answer :=
  .next (s.request l tag (.abort bay))

/-- HOLD (R86). -/
def execHold (l : LinkId) (tag bay : Byte) (s : State) : Answer :=
  .next (s.request l tag (.hold bay))

/-- RESUME (R86). -/
def execResume (l : LinkId) (tag bay : Byte) (s : State) : Answer :=
  .next (s.request l tag (.resume bay))

/-- ORDER_FILL (R17). -/
def execOrderFill (l : LinkId) (tag bay index cargo : Byte) (target : BitVec 16) (s : State) : Answer :=
  .next (s.request l tag (.orderFill bay index cargo target))

/-- CANCEL_FILL (R19). -/
def execCancelFill (l : LinkId) (tag bay index : Byte) (s : State) : Answer :=
  .next (s.request l tag (.cancelFill bay index))

/-- RULE_REFERRAL (R16). -/
def execRuleReferral (l : LinkId) (tag bay index ruling cls : Byte) (s : State) : Answer :=
  .next (s.request l tag (.ruleReferral bay index ruling cls))

/-- CERT_READ (R152). -/
def execCertRead (l : LinkId) (tag count : Byte) (s : State) : Answer :=
  .next (s.request l tag (.certRead count))

/-- CERT_RETIRE, office-only (R150). -/
def execCertRetire (l : LinkId) (tag k : Byte) (s : State) : Answer :=
  .next (s.request l tag (.certRetire k))

/-- AUDIT_RELEASE, office-only (R149). -/
def execAuditRelease (l : LinkId) (tag : Byte) (s : State) : Answer :=
  .next (s.request l tag .auditRelease)

/-- BAY_STATUS (R93). -/
def execBayStatus (l : LinkId) (tag bay : Byte) (s : State) : Answer :=
  .next (s.request l tag (.bayStatus bay))

/-- COMPARTMENT_STATUS (R24). -/
def execCompartmentStatus (l : LinkId) (tag bay index : Byte) (s : State) : Answer :=
  .next (s.request l tag (.compartmentStatus bay index))

/-- MAP_READ (R113). -/
def execMapRead (l : LinkId) (tag bay firstRing lastRing firstSector lastSector : Byte) (s : State) : Answer :=
  .next (s.request l tag (.mapRead bay firstRing lastRing firstSector lastSector))

/-- PENDING_READ (R165). -/
def execPendingRead (l : LinkId) (tag scope : Byte) (s : State) : Answer :=
  .next (s.request l tag (.pendingRead scope))

/-- PENDING_CLEAR (R166). -/
def execPendingClear (l : LinkId) (tag scope : Byte) (kinds : List Byte) (s : State) : Answer :=
  .next (s.request l tag (.pendingClear scope kinds))

/-- A frame below 0x40 whose kind is no request kind: its kind is read as the link unit reads every frame's (R171). -/
def execUnknownKind (l : LinkId) (tag kind : Byte) (body : List Byte) (s : State) : Answer :=
  .next (s.live fun t => t.arrive l { kind := kind, tag := tag, body := body } (readRequest kind body))

/-- A frame ended by an error (R169). -/
def execReject (l : LinkId) (error : FrameError) (s : State) : Answer :=
  .next (s.live fun t => t.frameError l error)

/-- The gap timer's expiry (R168). -/
def execGap (l : LinkId) (s : State) : Answer :=
  .next (s.live fun t => t.linkGap l)

/-- A frame's last byte leaves (R170, R173). -/
def execFrameSent (l : LinkId) (s : State) : Answer :=
  .next (s.live fun t => t.frameSent l)

/-- A bay report, taken whole with whatever it brings about (R66, R75 to R77). -/
def execBayReport (b : Bay) (flow fill temp : Byte) (s : State) : Answer :=
  .next (s.live fun t => t.takeMessage? b ((report? flow fill temp).map .report))

/-- SEATED (R70, R72). -/
def execSeated (b : Bay) (index : Byte) (s : State) : Answer :=
  .next (s.live fun t => t.takeMessage? b ((seatedIndex? index).map .seated))

/-- LIFTED (R72). -/
def execLifted (b : Bay) (s : State) : Answer :=
  .next (s.live fun t => t.takeMessage b .lifted)

/-- DRAIN_CLEAR (R79). -/
def execDrainClear (b : Bay) (s : State) : Answer :=
  .next (s.live fun t => t.takeMessage b .drainClear)

/-- HIGH_LEVEL (R75, R136). -/
def execHighLevel (b : Bay) (s : State) : Answer :=
  .next (s.live fun t => t.takeMessage b .highLevel)

/-- PROBE (R100). -/
def execProbe (b : Bay) (grade : Byte) (s : State) : Answer :=
  .next (s.live fun t => t.takeMessage? b ((grade? grade).map .probe))

/-- Four character times without a byte (R186). -/
def execBayPortTimeout (b : Bay) (s : State) : Answer :=
  .next (s.live fun t => t.portTimeout b)

/-- An orders message has gone out (R186). -/
def execBayOrdersSent (b : Bay) (s : State) : Answer :=
  .next (s.live fun t => t.ordersSent b)

/-- The stop line rises (R177). -/
def execStopLineRise (s : State) : Answer :=
  .next ((s.stopPin true).live State.stopRise)

/-- The stop line falls (R177). -/
def execStopLineFall (s : State) : Answer :=
  .next ((s.stopPin false).live State.stopFall)

/-- A fault line rises (R118). -/
def execFaultLineRise (u : UtilId) (s : State) : Answer :=
  .next ((s.faultPin u true).live fun t => t.faultRise u)

/-- A fault line falls (R118). -/
def execFaultLineFall (u : UtilId) (s : State) : Answer :=
  .next ((s.faultPin u false).live fun t => t.faultFall u)

/-- A minute tick (R155). -/
def execMinuteTick (s : State) : Answer :=
  .next (s.live State.tick)

/-- The reset line taken (R183). -/
def execResetLineAssert (s : State) : Answer :=
  .next (s.resetAssert)

/-- The reset line released (R183). -/
def execResetLineRelease (straps : Fin 8) (s : State) : Answer :=
  .next (s.resetRelease straps)

/-- A lane's judgement of a WASH entry at its head (log 5) (R67, R68). -/
def execTakeWashEntry (b : Bay) (s : State) : Answer :=
  .next (s.live fun t => if t.headKind b = some .wash then t.settle [.idle b] else t)

/-- A lane's judgement of a FILL entry at its head (log 5) (R67, R69). -/
def execTakeFillEntry (b : Bay) (s : State) : Answer :=
  .next (s.live fun t => if t.headKind b = some .fill then t.settle [.idle b] else t)

/-- The arbiter's judgement of a utility's queue (log 5) (R120). -/
def execUtilityGrant (u : UtilId) (s : State) : Answer :=
  .next (s.live fun t => t.settle [.judge u])

/-- The report that reaches the seat limit (log 4) (R71). -/
def execSeatTimeout (b : Bay) (flow fill temp : Byte) (s : State) : Answer :=
  .next (s.live fun t => t.reportRow b flow fill temp .seatTimeout)

/-- The report that takes the no-flow run to the FLUSH step's stall limit (log 4) (R75). -/
def execNoFlow (b : Bay) (flow fill temp : Byte) (s : State) : Answer :=
  .next (s.live fun t => t.reportRow b flow fill temp .noFlow)

/-- The report that takes the cold run to the cold limit (log 4) (R75, R76). -/
def execColdSupply (b : Bay) (flow fill temp : Byte) (s : State) : Answer :=
  .next (s.live fun t => t.reportRow b flow fill temp .coldSupply)

/-- The report that reaches the drain limit (log 4) (R79). -/
def execDrainStuck (b : Bay) (flow fill temp : Byte) (s : State) : Answer :=
  .next (s.live fun t => t.reportRow b flow fill temp .drainStuck)

/-- The report that reaches the starve limit (log 4) (R80). -/
def execUnderrun (b : Bay) (flow fill temp : Byte) (s : State) : Answer :=
  .next (s.live fun t => t.reportRow b flow fill temp .underrun)

/-- The report that reaches the INSPECT step's stall limit (log 4) (R101). -/
def execScanStall (b : Bay) (flow fill temp : Byte) (s : State) : Answer :=
  .next (s.live fun t => t.reportRow b flow fill temp .scanStall)

/-- The report that takes the no-flow run to the fill stall limit (log 4) (R135). -/
def execFillStall (b : Bay) (flow fill temp : Byte) (s : State) : Answer :=
  .next (s.live fun t => t.reportRow b flow fill temp .fillStall)

/-- The report that takes a step's delivered count to its amount (log 4) (R78). -/
def execStepEnd (b : Bay) (flow fill temp : Byte) (s : State) : Answer :=
  .next (s.live fun t => t.reportRow b flow fill temp .stepEnd)

/-- The report that takes filled litres to the target (log 4) (R135). -/
def execFillComplete (b : Bay) (flow fill temp : Byte) (s : State) : Answer :=
  .next (s.live fun t => t.reportRow b flow fill temp .fillComplete)

/-- A byte at a host link's receiver (R168). -/
def execFrameByteReceived (l : LinkId) (byte : Byte) (s : State) : Answer :=
  .next (s.live fun t => t.linkByte l byte)

/-- A byte at a bay port's receiver (R186). -/
def execPortByteReceived (b : Bay) (byte : Byte) (s : State) : Answer :=
  .next (s.live fun t => t.portByte b byte)

end Sys2Proof.Machine
end

