-- ==== Sys2Proof/Machine/Dispatch.lean ====
section
/-! DEFINITION. Machine/Dispatch.lean: one arm per row of spec/opcode_table.json, each a direct call of its meaning. -/

namespace Sys2Proof.Machine

/-- A command's effect on everything but the queue of commands. -/
def exec (i : Instr) (s : State) : Host.Outcome State Fault Refusal :=
  match i with
  | .ident l tag => Sys2Proof.Machine.execIdent l tag s
  | .setMode l tag mode => Sys2Proof.Machine.execSetMode l tag mode s
  | .restart l tag => Sys2Proof.Machine.execRestart l tag s
  | .linkSetup l tag output showMasked masks => Sys2Proof.Machine.execLinkSetup l tag output showMasked masks s
  | .setClock l tag clock => Sys2Proof.Machine.execSetClock l tag clock s
  | .setTiming l tag seat cold drain starve fillStall => Sys2Proof.Machine.execSetTiming l tag seat cold drain starve fillStall s
  | .setAudit l tag period highWater => Sys2Proof.Machine.execSetAudit l tag period highWater s
  | .setCertBase l tag number => Sys2Proof.Machine.execSetCertBase l tag number s
  | .markTest l tag mark => Sys2Proof.Machine.execMarkTest l tag mark s
  | .markSet l tag mark => Sys2Proof.Machine.execMarkSet l tag mark s
  | .markClear l tag mark => Sys2Proof.Machine.execMarkClear l tag mark s
  | .markFlip l tag mark => Sys2Proof.Machine.execMarkFlip l tag mark s
  | .loadCarryover l tag row entries => Sys2Proof.Machine.execLoadCarryover l tag row entries s
  | .readCarryover l tag row => Sys2Proof.Machine.execReadCarryover l tag row s
  | .loadVerdict l tag first outcomes => Sys2Proof.Machine.execLoadVerdict l tag first outcomes s
  | .readVerdict l tag first count => Sys2Proof.Machine.execReadVerdict l tag first count s
  | .stepWindow l tag first last => Sys2Proof.Machine.execStepWindow l tag first last s
  | .stepWrite l tag steps => Sys2Proof.Machine.execStepWrite l tag steps s
  | .stepRead l tag index count => Sys2Proof.Machine.execStepRead l tag index count s
  | .setUtility l tag utility capacity offline cargo => Sys2Proof.Machine.execSetUtility l tag utility capacity offline cargo s
  | .utilityStatus l tag => Sys2Proof.Machine.execUtilityStatus l tag s
  | .admitVisit l tag bay fleet priority priors => Sys2Proof.Machine.execAdmit l tag bay fleet priority priors s
  | .depart l tag bay => Sys2Proof.Machine.execDepart l tag bay s
  | .bayClear l tag bay => Sys2Proof.Machine.execBayClear l tag bay s
  | .assign l tag bay index head chainMode last programClass => Sys2Proof.Machine.execAssign l tag bay index head chainMode last programClass s
  | .extend l tag bay index newLast => Sys2Proof.Machine.execExtend l tag bay index newLast s
  | .abort l tag bay => Sys2Proof.Machine.execAbort l tag bay s
  | .hold l tag bay => Sys2Proof.Machine.execHold l tag bay s
  | .resume l tag bay => Sys2Proof.Machine.execResume l tag bay s
  | .orderFill l tag bay index cargo target => Sys2Proof.Machine.execOrderFill l tag bay index cargo target s
  | .cancelFill l tag bay index => Sys2Proof.Machine.execCancelFill l tag bay index s
  | .ruleReferral l tag bay index ruling cls => Sys2Proof.Machine.execRuleReferral l tag bay index ruling cls s
  | .certRead l tag count => Sys2Proof.Machine.execCertRead l tag count s
  | .certRetire l tag k => Sys2Proof.Machine.execCertRetire l tag k s
  | .auditRelease l tag => Sys2Proof.Machine.execAuditRelease l tag s
  | .bayStatus l tag bay => Sys2Proof.Machine.execBayStatus l tag bay s
  | .compartmentStatus l tag bay index => Sys2Proof.Machine.execCompartmentStatus l tag bay index s
  | .mapRead l tag bay firstRing lastRing firstSector lastSector => Sys2Proof.Machine.execMapRead l tag bay firstRing lastRing firstSector lastSector s
  | .pendingRead l tag scope => Sys2Proof.Machine.execPendingRead l tag scope s
  | .pendingClear l tag scope kinds => Sys2Proof.Machine.execPendingClear l tag scope kinds s
  | .unknownKind l tag kind body => Sys2Proof.Machine.execUnknownKind l tag kind body s
  | .reject l error => Sys2Proof.Machine.execReject l error s
  | .gap l => Sys2Proof.Machine.execGap l s
  | .frameSent l => Sys2Proof.Machine.execFrameSent l s
  | .bayReport b flow fill temp => Sys2Proof.Machine.execBayReport b flow fill temp s
  | .seated b index => Sys2Proof.Machine.execSeated b index s
  | .lifted b => Sys2Proof.Machine.execLifted b s
  | .drainClear b => Sys2Proof.Machine.execDrainClear b s
  | .highLevel b => Sys2Proof.Machine.execHighLevel b s
  | .probe b grade => Sys2Proof.Machine.execProbe b grade s
  | .bayPortTimeout b => Sys2Proof.Machine.execBayPortTimeout b s
  | .bayOrdersSent b => Sys2Proof.Machine.execBayOrdersSent b s
  | .stopLineRise => Sys2Proof.Machine.execStopLineRise s
  | .stopLineFall => Sys2Proof.Machine.execStopLineFall s
  | .faultLineRise u => Sys2Proof.Machine.execFaultLineRise u s
  | .faultLineFall u => Sys2Proof.Machine.execFaultLineFall u s
  | .minuteTick => Sys2Proof.Machine.execMinuteTick s
  | .resetLineAssert => Sys2Proof.Machine.execResetLineAssert s
  | .resetLineRelease straps => Sys2Proof.Machine.execResetLineRelease straps s
  | .takeWashEntry b => Sys2Proof.Machine.execTakeWashEntry b s
  | .takeFillEntry b => Sys2Proof.Machine.execTakeFillEntry b s
  | .utilityGrant u => Sys2Proof.Machine.execUtilityGrant u s
  | .seatTimeout b flow fill temp => Sys2Proof.Machine.execSeatTimeout b flow fill temp s
  | .noFlow b flow fill temp => Sys2Proof.Machine.execNoFlow b flow fill temp s
  | .coldSupply b flow fill temp => Sys2Proof.Machine.execColdSupply b flow fill temp s
  | .drainStuck b flow fill temp => Sys2Proof.Machine.execDrainStuck b flow fill temp s
  | .underrun b flow fill temp => Sys2Proof.Machine.execUnderrun b flow fill temp s
  | .scanStall b flow fill temp => Sys2Proof.Machine.execScanStall b flow fill temp s
  | .fillStall b flow fill temp => Sys2Proof.Machine.execFillStall b flow fill temp s
  | .stepEnd b flow fill temp => Sys2Proof.Machine.execStepEnd b flow fill temp s
  | .fillComplete b flow fill temp => Sys2Proof.Machine.execFillComplete b flow fill temp s
  | .frameByteReceived l byte => Sys2Proof.Machine.execFrameByteReceived l byte s
  | .portByteReceived b byte => Sys2Proof.Machine.execPortByteReceived b byte s

end Sys2Proof.Machine
end

