-- ==== Sys2Proof/Safety.lean ====
section
/-! DEFINITION. Safety.lean: what the statements about the machine are said in. When a link is free, which request a row carries, the
bits of the machine that a cascade leaves alone, and the invariants every step keeps. -/

namespace Sys2Proof.Machine

/-- The part works and the link will take a frame at once: reset line released, buffer empty, no request in hand (R170, R183). -/
abbrev State.LinkFree (s : State) (l : LinkId) : Prop :=
  s.pins.resetHeld = false ∧ (s.link l).buffer = none ∧ (s.link l).inHand = false

/-- The machine after a free link's request has been answered with `r`: the reply in hand, and each free transmitter's choice made. That
a free transmitter chooses at the end of the event, here and wherever a statement ends in `.choose`, is the model's reading (log 6). -/
def State.answered (s : State) (l : LinkId) (kind tag : Byte) (r : Reply) : State := (s.giveReply l kind tag r).choose

/-- The request a row of the table carries, with its link and tag; `none` for a row that is no request (log 3). -/
def asRequest : Instr → Option (LinkId × Byte × Request)
  | .ident l t => some (l, t, .ident)
  | .setMode l t m => some (l, t, .setMode m)
  | .restart l t => some (l, t, .restart)
  | .linkSetup l t o v m => some (l, t, .linkSetup o v m)
  | .setClock l t c => some (l, t, .setClock c)
  | .setTiming l t a b c d e => some (l, t, .setTiming a b c d e)
  | .setAudit l t p h => some (l, t, .setAudit p h)
  | .setCertBase l t n => some (l, t, .setCertBase n)
  | .markTest l t m => some (l, t, .mark 0 m)
  | .markSet l t m => some (l, t, .mark 1 m)
  | .markClear l t m => some (l, t, .mark 2 m)
  | .markFlip l t m => some (l, t, .mark 3 m)
  | .loadCarryover l t r es => some (l, t, .loadCarryover r es)
  | .readCarryover l t r => some (l, t, .readCarryover r)
  | .loadVerdict l t f os => some (l, t, .loadVerdict f os)
  | .readVerdict l t f n => some (l, t, .readVerdict f n)
  | .stepWindow l t f n => some (l, t, .stepWindow f n)
  | .stepWrite l t ss => some (l, t, .stepWrite ss)
  | .stepRead l t i n => some (l, t, .stepRead i n)
  | .setUtility l t u c o g => some (l, t, .setUtility u c o g)
  | .utilityStatus l t => some (l, t, .utilityStatus)
  | .admitVisit l t b f p ps => some (l, t, .admitVisit b f p ps)
  | .depart l t b => some (l, t, .depart b)
  | .bayClear l t b => some (l, t, .bayClear b)
  | .assign l t b i h m n c => some (l, t, .assign b i h m n c)
  | .extend l t b i n => some (l, t, .extend b i n)
  | .abort l t b => some (l, t, .abort b)
  | .hold l t b => some (l, t, .hold b)
  | .resume l t b => some (l, t, .resume b)
  | .orderFill l t b i c g => some (l, t, .orderFill b i c g)
  | .cancelFill l t b i => some (l, t, .cancelFill b i)
  | .ruleReferral l t b i r c => some (l, t, .ruleReferral b i r c)
  | .certRead l t n => some (l, t, .certRead n)
  | .certRetire l t k => some (l, t, .certRetire k)
  | .auditRelease l t => some (l, t, .auditRelease)
  | .bayStatus l t b => some (l, t, .bayStatus b)
  | .compartmentStatus l t b i => some (l, t, .compartmentStatus b i)
  | .mapRead l t b r0 r1 c0 c1 => some (l, t, .mapRead b r0 r1 c0 c1)
  | .pendingRead l t sc => some (l, t, .pendingRead sc)
  | .pendingClear l t sc ks => some (l, t, .pendingClear sc ks)
  | .unknownKind .. | .reject .. | .gap .. | .frameSent .. | .bayReport .. | .seated .. | .lifted .. | .drainClear ..
  | .highLevel .. | .probe .. | .bayPortTimeout .. | .bayOrdersSent .. | .stopLineRise | .stopLineFall | .faultLineRise ..
  | .faultLineFall .. | .minuteTick | .resetLineAssert | .resetLineRelease .. | .takeWashEntry .. | .takeFillEntry ..
  | .utilityGrant .. | .seatTimeout .. | .noFlow .. | .coldSupply .. | .drainStuck .. | .underrun .. | .scanStall ..
  | .fillStall .. | .stepEnd .. | .fillComplete .. | .frameByteReceived .. | .portByteReceived .. => none

/-- The body length the link unit expects of a request kind (R171, 11.4, R184): one length for each kind, or, where the body has a count
field, the length that the count received gives. -/
def bodyLength (kind : Nat) (body : List Byte) : Nat :=
  match kind with
  | 0x09 | 0x07 | 0x13 | 0x14 | 0x16 | 0x29 | 0x39 => 2
  | 0x24 => 3
  | 0x04 | 0x05 | 0x08 | 0x18 | 0x2A => 4
  | 0x06 | 0x28 | 0x3A => 5
  | 0x23 => 6
  | 0x10 => 17
  | 0x12 | 0x3C => 2 + (body.getD 1 0).toNat
  | 0x15 => 1 + 16 * (body.getD 0 0).toNat
  | 0x20 => 6 + (body.getD 5 0).toNat
  | _ => 1

/-- The kinds refused with WRONG_MODE in DORMANT (R175). -/
def Request.notInDormant : Request → Bool
  | .admitVisit .. | .depart .. | .bayClear .. | .assign .. | .extend .. | .abort .. | .hold .. | .resume .. | .orderFill ..
  | .cancelFill .. | .ruleReferral .. => true
  | _ => false

/-- The kinds that name one compartment and act on it (R6, R56). -/
def Request.namesOne : Request → Bool
  | .assign .. | .extend .. | .orderFill .. | .cancelFill .. | .ruleReferral .. => true
  | _ => false

/-- The bay and index such a request names, when every one of its fields is in its range (R6, R9, R16, R17, R19, R56). -/
def Request.place? : Request → Option (Bay × Nat)
  | .assign b i _ m _ c =>
    if m.toNat ≤ 1 ∧ 1 ≤ c.toNat ∧ c.toNat ≤ 7 then (bay? b).bind fun b => (index? i).map fun k => (b, k) else none
  | .extend b i _ => (bay? b).bind fun b => (index? i).map fun k => (b, k)
  | .orderFill b i c t =>
    if c.toNat ≤ 15 ∧ 1 ≤ t.toNat ∧ t.toNat ≤ 20000 then (bay? b).bind fun b => (index? i).map fun k => (b, k) else none
  | .cancelFill b i => (bay? b).bind fun b => (index? i).map fun k => (b, k)
  | .ruleReferral b i r c =>
    if r.toNat = 0 ∨ (r.toNat = 1 ∧ 1 ≤ c.toNat ∧ c.toNat ≤ 7) then (bay? b).bind fun b => (index? i).map fun k => (b, k) else none
  | _ => none

/-- A visit's compartment, by bay and index, with its record (R6). -/
def State.Names (s : State) (b : Bay) (k : Nat) (r : Comp) : Prop := ∃ v, s.visit b = some v ∧ k ≤ v.count ∧ s.record? b k = some r

/-- The bay port message a row of the table is: its bay, type and payload (11.7); `none` for a row that is none. -/
def asNodeMessage : Instr → Option (Bay × Byte × List Byte)
  | .bayReport b flow fill temp => some (b, 0x01, [flow, fill, temp])
  | .seated b index => some (b, 0x02, [index])
  | .lifted b => some (b, 0x03, [])
  | .drainClear b => some (b, 0x04, [])
  | .highLevel b => some (b, 0x05, [])
  | .probe b grade => some (b, 0x06, [grade])
  | _ => none

/-- A port message's bytes: start, type, payload, and the check that makes them sum to 0 (11.7). -/
def portWire (type : Byte) (payload : List Byte) : List Byte :=
  [0x7A, type] ++ payload ++ [0 - (type :: payload).foldl (· + ·) 0]

/-- The row of the table that names what a bay report brings about (log 4); `none` for a report that brings nothing about. -/
def reportRowOf (e : ReportEnd) (b : Bay) (flow fill temp : Byte) : Option Instr :=
  match e with
  | .goesOn => none
  | .seatTimeout => some (.seatTimeout b flow fill temp)
  | .noFlow => some (.noFlow b flow fill temp)
  | .coldSupply => some (.coldSupply b flow fill temp)
  | .drainStuck => some (.drainStuck b flow fill temp)
  | .underrun => some (.underrun b flow fill temp)
  | .scanStall => some (.scanStall b flow fill temp)
  | .fillStall => some (.fillStall b flow fill temp)
  | .stepEnd => some (.stepEnd b flow fill temp)
  | .fillComplete => some (.fillComplete b flow fill temp)

/-- The rows of the reset line, and those of the yard lines that only a pin shows while it is held (R183, log 12). -/
def isLineRow : Instr → Bool
  | .resetLineAssert | .resetLineRelease .. | .stopLineRise | .stopLineFall | .faultLineRise .. | .faultLineFall .. => true
  | _ => false

/-- What no consequence of an event changes, whatever the tasks: everything that only a request, a line or a link owns. -/
structure CascadeFrame (s t : State) : Prop where
  pending : t.pending = s.pending
  pins : t.pins = s.pins
  office : t.office = s.office
  panel : t.panel = s.panel
  officeRate : t.officeRate = s.officeRate
  mode : t.mode = s.mode
  stopLevel : t.stopLevel = s.stopLevel
  marks : t.marks = s.marks
  timing : t.timing = s.timing
  visits : t.visits = s.visits
  carry : t.carry = s.carry
  verdicts : t.verdicts = s.verdicts
  entries : t.store.entries = s.store.entries
  windowFirst : t.store.first = s.store.first
  windowLast : t.store.last = s.store.last
  pointer : t.store.pointer = s.store.pointer
  period : t.certs.period = s.certs.period
  highWater : t.certs.highWater = s.certs.highWater
  clock : t.certs.clock = s.certs.clock
  masks : t.notices.masks = s.notices.masks
  showMasked : t.notices.showMasked = s.notices.showMasked
  output : t.notices.output = s.notices.output

/-! ## Invariants -/

/-- The queues keep to their capacities (R160). -/
def State.NoticeRoom (s : State) : Prop := s.notices.urgent.length ≤ 8 ∧ s.notices.routine.length ≤ 32
/-- The log holds at most 24 certificates (R143). -/
def State.LogRoom (s : State) : Prop := s.certs.log.length ≤ 24
/-- The allocated records of all bays never exceed 32 (R2). -/
def State.PoolRoom (s : State) : Prop := s.records.length ≤ 32
/-- The write pointer holds an index within the window (R44). -/
def State.PointerInWindow (s : State) : Prop := s.store.first ≤ s.store.pointer ∧ s.store.pointer ≤ s.store.last
/-- A utility that is out of service has an empty grant set (R123). -/
def State.NoGrantsOutOfService (s : State) : Prop := ∀ u : UtilId, (s.util u).inService = false → (s.util u).grants = []
/-- A reply is on the wire. -/
def Link.sendsReply (x : Link) : Bool :=
  match x.sending with
  | some (.reply _) => true
  | _ => false
/-- A link has a request in hand exactly while its reply waits or goes out, never two replies at once, and a frame stays in the
buffer only while one is in hand (R170, R173). -/
def Link.HandKept (x : Link) : Prop :=
  x.inHand = (x.reply.isSome || x.sendsReply) ∧ (x.reply.isSome = true → x.sendsReply = false) ∧
    (x.buffer.isSome = true → x.inHand = true)
/-- Both links keep it. -/
def State.HandsKept (s : State) : Prop := s.office.HandKept ∧ s.panel.HandKept
/-- The log holds a run of consecutive numbers that ends one below the next certificate number (R143). -/
def State.NumbersRun (s : State) : Prop :=
  (∀ (i : Nat) (c d : Cert), s.certs.log[i]? = some c → s.certs.log[i + 1]? = some d → d.number = c.number + 1) ∧
  (∀ c : Cert, s.certs.log.getLast? = some c → s.certs.next = if c.number = 4294967295 then none else some (c.number + 1))
/-- A pending set holds each kind at most once, the yard set only yard kinds and a bay's only bay kinds (R158). -/
def State.PendingKept (s : State) : Prop :=
  ∀ sc : Scope, ((s.notices.set sc).map fun x => x.event.kind).Nodup ∧ ∀ x ∈ s.notices.set sc, x.event.kind.yard = decide (sc = 0)
/-- Every lane carries STOP exactly while the yard is STOPPED (R175), and LOCKOUT exactly while its mark is set (R179). -/
def State.CausesFollow (s : State) : Prop :=
  ∀ b : Bay, (s.lane b).holds.stop = decide (s.mode = .stopped) ∧ (s.lane b).holds.lockout = s.marks[b.val + 1]'(by omega)
/-- The fill valve is open exactly in FILLING, the probe on exactly in SCANNING, and a supply ordered only in RUNNING (R92). -/
def State.OrdersFollow (s : State) : Prop :=
  ∀ b : Bay, (s.lane b).orders.fill = decide ((s.lane b).st = .filling) ∧
    (s.lane b).orders.probe = decide ((s.lane b).st = .scanning) ∧
    ((s.lane b).orders.supply.isSome = true → (s.lane b).st = .running)

/-- The state a lane is in or, where it is HELD, the one it returns to (R87). -/
def Lane.stage (l : Lane) : LaneState := match l.ret with
  | some r => r
  | none => l.st

/-- What the rules say of records, queues, lanes, claims and the withheld list taken together, between one event and the next. -/
structure State.YardSound (s : State) : Prop where
  /-- A visit has 1 to 8 compartments (R1). -/
  visitCount : ∀ (b : Bay) (v : Visit), s.visit b = some v → 1 ≤ v.count ∧ v.count ≤ 8
  /-- No compartment has two records (R2). -/
  recordsDistinct : s.records.Pairwise fun r q => ¬ (r.bay = q.bay ∧ r.index = q.index)
  /-- The allocated records of a bay are its visit's compartments 1 to n (R2). -/
  recordsOfVisits : ∀ (b : Bay) (k : Nat),
    (∃ r ∈ s.records, r.bay = b ∧ r.index = k) ↔ ∃ v, s.visit b = some v ∧ 1 ≤ k ∧ k ≤ v.count
  /-- A lane that is not IDLE has a current compartment, which has a record, and a service kind; an IDLE lane has neither (R65). -/
  laneServes : ∀ b : Bay,
    ((s.lane b).st = .idle ∧ (s.lane b).current = none ∧ (s.lane b).service = none) ∨
    ((s.lane b).st ≠ .idle ∧ (s.lane b).service.isSome = true ∧ ∃ r ∈ s.records, r.bay = b ∧ (s.lane b).current = some r.index)
  /-- RUNNING, DRAINING, SCANNING and STARVED serve a WASH, FILLING a FILL, and the same holds of the state a HELD lane returns to (R65). -/
  laneStates : ∀ b : Bay,
    ((s.lane b).service = some .wash → (s.lane b).stage ≠ .filling) ∧
    ((s.lane b).service = some .fill →
      (s.lane b).stage ∈ [LaneState.seating, .waitResource, .filling, .suspended])
  /-- A lane has a return state exactly while HELD, none of IDLE and HELD. A HELD lane has a hold cause, and a lane with a hold cause is IDLE
  or HELD (R86, R87, R89). -/
  laneHeld : ∀ b : Bay,
    ((s.lane b).st = .held ↔ (s.lane b).ret.isSome = true) ∧
    (s.lane b).ret ≠ some .idle ∧ (s.lane b).ret ≠ some .held ∧
    ((s.lane b).st = .held → (s.lane b).holds ≠ Holds.none) ∧
    ((s.lane b).holds ≠ Holds.none → (s.lane b).st = .idle ∨ (s.lane b).st = .held)
  /-- In DORMANT no visit exists, every lane is IDLE, and the bay orders are parked, none, open, closed, off (R175). -/
  dormant : s.mode = .dormant → ∀ b : Bay, s.visit b = none ∧ (s.lane b).st = .idle ∧ (s.lane b).orders = Orders.reset
  /-- A record is WASHING exactly while its lane serves it by a WASH, and FILLING exactly while by a FILL (R65). -/
  recordServed : ∀ r ∈ s.records,
    (r.st = .washing ↔ (s.lane r.bay).current = some r.index ∧ (s.lane r.bay).service = some .wash) ∧
    (r.st = .filling ↔ (s.lane r.bay).current = some r.index ∧ (s.lane r.bay).service = some .fill)
  /-- The achieved class never exceeds the program class, and is 0 before the program's end (R14, R16). -/
  achieved : ∀ r ∈ s.records, r.achieved ≤ r.programClass ∧
    (r.st ∈ [CompState.admitted, .queued, .washing, .dirty, .referred] → r.achieved = 0)
  /-- A QUEUED, WASHING or REFERRED record holds a program (R9, R16). -/
  program : ∀ r ∈ s.records, r.st ∈ [CompState.queued, .washing, .referred] → r.program.isSome = true
  /-- A CERTIFIED, FILLING or FILLED record holds a certificate number, and a FILLING one a fill order (R15, R20). -/
  certificate : ∀ r ∈ s.records, (r.st ∈ [CompState.certified, .filling, .filled] → r.cert.isSome = true) ∧
    (r.st = .filling → r.order.isSome = true)
  /-- No compartment stands in a queue twice (R63). -/
  queueDistinct : ∀ b : Bay, ((s.lane b).queue.map QEntry.index).Nodup
  /-- A WASH entry's record is QUEUED, a FILL entry's CERTIFIED with a fill order (R63). -/
  queueRecords : ∀ b : Bay, ∀ e ∈ (s.lane b).queue, ∃ r ∈ s.records, r.bay = b ∧ r.index = e.index ∧
    (e.kind = .wash → r.st = .queued) ∧ (e.kind = .fill → r.st = .certified ∧ r.order.isSome = true)
  /-- Every QUEUED record has its WASH entry, every CERTIFIED one with a fill order its FILL entry (R9, R15, R18). -/
  queueComplete : ∀ r ∈ s.records,
    (r.st = .queued → { index := r.index, kind := .wash } ∈ (s.lane r.bay).queue) ∧
    (r.st = .certified → r.order.isSome = true → { index := r.index, kind := .fill } ∈ (s.lane r.bay).queue)
  /-- The withheld list holds no compartment twice (R146). -/
  withheldDistinct : s.certs.withheld.Pairwise fun w x => ¬ (w.bay = x.bay ∧ w.index = x.index)
  /-- It holds exactly the compartments whose record is in AWAIT_CERT (R144, R146). -/
  withheldRecords : ∀ (b : Bay) (k : Nat),
    (∃ w ∈ s.certs.withheld, w.bay = b ∧ w.index = k) ↔ ∃ r ∈ s.records, r.bay = b ∧ r.index = k ∧ r.st = .awaitCert
  /-- A lane holds at most one grant or one claim, never both (R74, R116). -/
  holdsOne : ((allUtils.flatMap fun u => (s.util u).grants ++ (s.util u).claims).map Claim.lane).Nodup
  /-- It holds a grant only in FILLING, or in RUNNING a step that draws on that utility (R74). -/
  grantStates : ∀ u : UtilId, ∀ c ∈ (s.util u).grants, (s.lane c.lane).st = .filling ∨
    ((s.lane c.lane).st = .running ∧ (s.stepOf c.lane).utility?.map WashUtil.util = some u)
  /-- It holds a claim only in WAIT_RESOURCE and SUSPENDED, for a WASH on the utility its step draws on (R65, R119, R120). -/
  claimStates : ∀ u : UtilId, ∀ c ∈ (s.util u).claims,
    ((s.lane c.lane).st = .waitResource ∨ (s.lane c.lane).st = .suspended) ∧
    ((s.lane c.lane).service = some .wash → (s.stepOf c.lane).utility?.map WashUtil.util = some u)
  /-- A lane in WAIT_RESOURCE or SUSPENDED holds a claim, and one in FILLING, or RUNNING a FLUSH or BLOW, a grant (R65, R90). -/
  stateHolds : ∀ b : Bay,
    ((s.lane b).st = .waitResource ∨ (s.lane b).st = .suspended → ∃ u, ∃ c ∈ (s.util u).claims, c.lane = b) ∧
    ((s.lane b).st = .filling ∨ ((s.lane b).st = .running ∧ (s.stepOf b).utility?.isSome = true) →
      ∃ u, ∃ c ∈ (s.util u).grants, c.lane = b)
  /-- A lane pins its current entry while a WASH is in WAIT_RESOURCE, RUNNING, SUSPENDED or SCANNING, or returns there, and no entry
  otherwise (R49, R50). -/
  pinned : ∀ b : Bay, s.store.pins[b] =
    if (s.lane b).service = some .wash ∧ (s.lane b).stage ∈ [LaneState.waitResource, .running, .suspended, .scanning]
    then some (s.lane b).index else none
  /-- A lane has a scan record exactly while it is SCANNING, or HELD to return there (R98). -/
  scanPresent : ∀ b : Bay,
    (s.scan b).isSome = true ↔ (s.lane b).st = .scanning ∨ ((s.lane b).st = .held ∧ (s.lane b).ret = some .scanning)
  /-- Its pointer is the zone that stands next after the first zones-written zones in the scan order (R98). -/
  scanPointer : ∀ (b : Bay) (x : Scan), s.scan b = some x → (scanZones x.window x.order)[x.written]? = some x.pointer
  /-- Its window, scan order and threshold are those of the pinned descriptor (R98). -/
  scanStep : ∀ (b : Bay) (x : Scan), s.scan b = some x → ∃ stall endMark next,
    s.stepOf b = .inspect x.window x.order x.threshold stall endMark next

end Sys2Proof.Machine
end

