-- ==== Sys2Proof/Certificates/Slice0/Obligations.lean ====
section
/-! DEFINITION. Certificates/Slice0/Obligations.lean: the statements for the provers. `s.answered l kind tag r` is the machine `s` with
the reply `r` given on the link `l` and each free transmitter's next frame chosen; every field of `s` that the two do not touch stands in
it as it stands in `s`. That a free transmitter chooses at the end of the event, in `State.answered` and wherever a statement ends in
`.choose`, is the model's reading of R172 and R173 (log 6, DEDUCED), here named once for all of them. -/

section

open Sys2Proof Sys2Proof.Machine

/-! ## The block and its queue -/

/-- A step takes the command at the front of the queue and carries it out on the rest; on an empty queue the block idles (the model's
choice, log 1). -/
def Obligations.StepTakesTheCommandInFront : Prop :=
  (∀ (c : Instr) (rest : List Instr) (s : State), s.pending = c :: rest → step s = exec c { s with pending := rest }) ∧
  (∀ s : State, s.pending = [] → step s = .next s)

/-- What the manual gives every block after the reset line: its registers, each link hunting with its gap timer stopped, nothing received,
in hand, to send or being sent, and each bay port hunting and sending the reset orders. No command waits. -/
def Obligations.ResetLeavesTheManualsValues : Prop :=
  State.reset.mode = .dormant ∧ (∀ i : Fin 32, State.reset.marks[i] = false) ∧
  State.reset.timing = { seat := 40, cold := 120, drain := 60, starve := 20, fillStall := 30 } ∧
  (∀ b : Bay, State.reset.visit b = none) ∧ State.reset.records = [] ∧ State.reset.freeRecords = 32 ∧
  (∀ (p : Option Cargo) (c : Cargo), State.reset.carryEntry p c = .forbidden) ∧
  (∀ i : StepIx, State.reset.entry i = .blank) ∧
  State.reset.store.first = 0 ∧ State.reset.store.last = 255 ∧ State.reset.store.pointer = 0 ∧
  (∀ i : StepIx, State.reset.store.pinned i = false) ∧
  (∀ i : Nat, i < 64 → State.reset.verdictAt i = .refer) ∧
  (∀ (b : Bay) (z : Zone), (State.reset.residue b)[zoneIx z] = none) ∧ (∀ b : Bay, State.reset.scan b = none) ∧
  (allUtils.map fun u => (State.reset.util u).capacity) = [3, 2, 1, 2, 1, 1, 1] ∧
  (∀ u : UtilId, (State.reset.util u).cargo = none ∧ (State.reset.util u).offline = false ∧ (State.reset.util u).grants = [] ∧
    (State.reset.util u).claims = [] ∧ (State.reset.util u).counter = 0) ∧
  State.reset.certs = { log := [], withheld := [], next := some 1, period := 0, counter := 0, hold := false, highWater := 16,
                        backlog := false, clock := 0 } ∧
  (∀ sc : Scope, State.reset.notices.set sc = []) ∧ State.reset.notices.urgent = [] ∧ State.reset.notices.routine = [] ∧
  State.reset.notices.counter = 0 ∧ State.reset.notices.output = false ∧ State.reset.notices.showMasked = false ∧
  (∀ k : EventKind, State.reset.notices.masked k = decide (k = .stepDone)) ∧
  (∀ b : Bay, (State.reset.lane b).st = .idle ∧ (State.reset.lane b).current = none ∧ (State.reset.lane b).service = none ∧
    (State.reset.lane b).queue = [] ∧ (State.reset.lane b).index = 0 ∧ (State.reset.lane b).fetched = 0 ∧
    (State.reset.lane b).delivered = 0 ∧ (State.reset.lane b).noFlow = 0 ∧ (State.reset.lane b).cold = 0 ∧
    (State.reset.lane b).timer = 0 ∧ (State.reset.lane b).cap = 7 ∧ (State.reset.lane b).inspected = false ∧
    (State.reset.lane b).anyLitres = false ∧ (State.reset.lane b).seated = none ∧ (State.reset.lane b).temp = none ∧
    (State.reset.lane b).ret = none ∧ (State.reset.lane b).starveRelease = false ∧ (State.reset.lane b).holds = Holds.none ∧
    (State.reset.lane b).orders = { lance := .parked, supply := none, drain := true, fill := false, probe := false }) ∧
  (∀ l : LinkId, State.reset.link l =
    { assembly := .hunting, gapTimer := false, buffer := none, inHand := false, reply := none, reject := none, rejectFirst := false,
      sending := none }) ∧
  (∀ b : Bay, State.reset.port b = { partway := none, sending := some Orders.reset, due := false }) ∧
  Orders.reset = { lance := .parked, supply := none, drain := true, fill := false, probe := false } ∧ State.reset.pending = []

/-! ## The link unit -/

/-- A request row is a whole frame of that request arriving (the model's reading of the rows, log 3). A free link takes a permitted one at once,
hands it to its owner, and has the owner's reply in hand. With a request in hand a link keeps one further frame in its buffer, and answers none
yet; a frame that finds the buffer full is lost, with a REJECT of reason OVERRUN. The same holds of a frame of an unknown kind, and of any frame
however its body reads. To take a frame is to have it served and its reply in hand on its link, built from the state the request left; a refusal
carries no fields and neither Limited nor Prior, which for a MARK of bad length is the model's reading (log 33). To answer is to give the reply
and have each free transmitter choose (log 6). -/
def Obligations.FramesAreTakenOrWaitOrAreLost : Prop :=
  (∀ (c : Instr) (l : LinkId) (tag : Byte) (r : Request) (s : State), asRequest c = some (l, tag, r) →
    (s.LinkFree l → (l = .office ∨ officeOnly r.kind = false) →
      exec c s = .next ((answer r s).1.answered l r.kind tag (answer r s).2)) ∧
    (s.pins.resetHeld = false → (s.link l).inHand = true → (s.link l).buffer = none →
      exec c s = .next
        (s.setLink l { s.link l with buffer := some { kind := r.kind, tag := tag, body := r.body } }).choose) ∧
    (s.pins.resetHeld = false → (s.link l).buffer.isSome = true →
      exec c s = .next (s.setLink l ((s.link l).fail .overrun)).choose)) ∧
  (∀ (l : LinkId) (tag kind : Byte) (body : List Byte) (s : State), s.pins.resetHeld = false →
    exec (.unknownKind l tag kind body) s =
      .next (s.arrive l { kind := kind, tag := tag, body := body } (readRequest kind body)).choose) ∧
  (∀ (l : LinkId) (f : Frame) (x : Reading) (s : State),
    ((s.link l).buffer.isSome = true → s.arrive l f x = s.setLink l ((s.link l).fail .overrun)) ∧
    ((s.link l).buffer = none → (s.link l).inHand = true → s.arrive l f x = s.setLink l { s.link l with buffer := some f }) ∧
    ((s.link l).buffer = none → (s.link l).inHand = false → s.arrive l f x = s.takeFrame l f.kind f.tag x)) ∧
  (∀ (l : LinkId) (kind tag : Byte) (x : Reading) (s : State),
    s.takeFrame l kind tag x = (s.serve l kind x).1.giveReply l kind tag (s.serve l kind x).2) ∧
  (∀ (l : LinkId) (kind : Byte) (s : State),
    s.serve l kind .unknownKind = (s, .refuse .unknownKind) ∧
    s.serve l kind .badLength = (s, .refuse (if l = .panel ∧ officeOnly kind = true then .notPermitted else .badLength)) ∧
    ∀ r : Request, s.serve l kind (.request r) =
      if l = .panel ∧ officeOnly kind = true then (s, .refuse .notPermitted) else answer r s) ∧
  (∀ (e : Result) (fs : List Byte), Reply.refuse e = { result := e, fields := [], limited := false, prior := false } ∧
    Reply.ok fs = { result := .ok, fields := fs, limited := false, prior := false }) ∧
  (∀ (l : LinkId) (kind tag : Byte) (r : Reply) (s : State), s.answered l kind tag r = (s.giveReply l kind tag r).choose ∧
    s.giveReply l kind tag r = s.setLink l ((s.link l).answer (replyFrame s kind tag r))) ∧
  (∀ (x : Link) (s : State), s.link .office = s.office ∧ s.link .panel = s.panel ∧
    s.setLink .office x = { s with office := x } ∧ s.setLink .panel x = { s with panel := x })

/-- The link unit's checks on a free link, in their order: a kind below 0x40 that is no request kind is answered UNKNOWN_KIND from either
link; the fourteen office-only kinds are answered NOT_PERMITTED from the panel link, whatever the body; a permitted kind's body of another
length than its kind, or its count as received, gives is answered BAD_LENGTH. Nothing else changes. That a MARK refused with BAD_LENGTH is
answered with Prior clear, also where the mark it names is set, is the model's reading (log 33). -/
def Obligations.TheLinkUnitChecksKindPermissionAndLength : Prop :=
  (∀ (l : LinkId) (tag kind : Byte) (body : List Byte) (s : State), s.LinkFree l → kind.toNat < 0x40 →
    kind.toNat ∉ requestKinds →
    exec (.unknownKind l tag kind body) s = .next (s.answered l kind tag (.refuse .unknownKind))) ∧
  (∀ (c : Instr) (tag : Byte) (r : Request) (s : State), asRequest c = some (.panel, tag, r) → officeOnly r.kind = true →
    s.LinkFree .panel → exec c s = .next (s.answered .panel r.kind tag (.refuse .notPermitted))) ∧
  (∀ r : Request, officeOnly r.kind = true ↔
    match r with
    | .restart | .linkSetup .. | .setClock .. | .setCertBase .. | .setAudit .. | .setTiming .. | .loadCarryover ..
    | .loadVerdict .. | .stepWindow .. | .stepWrite .. | .setUtility .. | .bayClear .. | .auditRelease | .certRetire .. => True
    | _ => False) ∧
  (∀ (l : LinkId) (len high low tag kind : Byte) (body : List Byte) (s : State), s.LinkFree l →
    (s.link l).assembly = .check len (kind :: tag :: body) [high] → crc16 (len :: kind :: tag :: body) = high ++ low →
    kind.toNat ∈ requestKinds → body.length ≠ bodyLength kind.toNat body →
    exec (.frameByteReceived l low) s = .next ((s.setLink l { s.link l with assembly := .hunting, gapTimer := false }).answered l kind tag
      (.refuse (if l = .panel ∧ officeOnly kind = true then .notPermitted else .badLength)))) ∧
  (∀ (kind : Byte) (body : List Byte),
    readRequest kind body = .badLength ↔ kind.toNat ∈ requestKinds ∧ body.length ≠ bodyLength kind.toNat body) ∧
  (∀ (kind : Byte) (body : List Byte), readRequest kind body = .unknownKind ↔ kind.toNat ∉ requestKinds)

/-- The frames the part sends. A reply: its kind, tag and two opening bytes, with the four conditions in bits 0 to 3 and nothing in bits 4 to
7. A notice and a REJECT: kind, tag 0 and body, with each event's snapshot fields from its first byte and 0 after them, and the codes they
carry. A frame on the wire: start byte, length, content and check, high byte first. A bay orders message: its bytes, summing to 0. -/
def Obligations.SentFramesHaveTheirLayout : Prop :=
  (∀ (s : State) (kind tag : Byte) (r : Reply), ∃ c : Byte,
    replyFrame s kind tag r = { kind := 0x80 + kind, tag := tag, body := byte r.result.code :: c :: r.fields } ∧
    c.getLsbD 0 = r.limited ∧ c.getLsbD 1 = r.prior ∧ c.getLsbD 2 = s.certs.hold ∧
    c.getLsbD 3 = !(s.notices.urgent.isEmpty && s.notices.routine.isEmpty) ∧ c.toNat < 16) ∧
  (∀ (f : Frame) (r : Reject) (n : Notice), Sending.frame (.reply f) = f ∧
    Sending.frame (.reject r) = { kind := 0xFF, tag := 0, body := [byte r.reason.code, byte r.lost] } ∧
    Sending.frame (.notice n) =
      { kind := 0x40, tag := 0, body := byte n.scope.val :: byte n.event.kind.code :: byte n.count :: n.event.bytes }) ∧
  (∀ f : Frame, ∃ high low : Byte, high ++ low = crc16 (byte (f.body.length + 2) :: f.kind :: f.tag :: f.body) ∧
    f.wire = 0x5E :: byte (f.body.length + 2) :: f.kind :: f.tag :: (f.body ++ [high, low])) ∧
  (crc16 [] = 0xFFFF ∧ ∀ (bs : List Byte) (b : Byte), crc16 (bs ++ [b]) =
    (fun c : BitVec 16 => if c.getLsbD 15 = true then (c <<< 1) ^^^ 0x1021 else c <<< 1)^[8] (crc16 bs ^^^ (b ++ (0 : Byte)))) ∧
  (∀ n : Nat, byte n = BitVec.ofNat 8 n ∧ bytes2 n = [byte (n / 256), byte n] ∧ bytes3 n = byte (n / 65536) :: bytes2 n ∧
    bytes4 n = byte (n / 16777216) :: bytes3 n) ∧
  (∀ e : Event, ∃ fields : List Byte, e.bytes = fields ++ List.replicate (8 - fields.length) 0 ∧ fields.length ≤ 8 ∧
    fields = match e with
      | .stepDone k i d n => [byte k, byte i.val, byte d.code] ++ bytes2 n
      | .programEnd k a => [byte k, byte a]
      | .verdict k i m c v o => [byte k, byte i.val, byte m, byte c, byte v, byte o.code]
      | .certIssued k n a => byte k :: bytes4 n ++ [byte a]
      | .fillDone k g n o c => [byte k, byte g.val] ++ bytes2 n ++ [byte o.code, (c.map fun x => byte x.code).getD 0xFF]
      | .fillRefused k g c => [byte k, byte g.val, byte c.code]
      | .fault r k i => [byte r.code, byte k, byte i.val]
      | .referral k => [byte k]
      | .overfill k n m => byte k :: bytes2 n ++ bytes2 m
      | .utilityLost u p n => [byte (utilCode u), if p then 1 else 0, byte n]
      | .utilityBack u n => [byte (utilCode u), byte n]
      | .auditHold p n => (if p then 1 else 0) :: bytes4 n
      | .backlog o n => [if o then 1 else 0, byte n]
      | .modeChange x y c => [byte x.code, byte y.code, byte c.code]) ∧
  (∀ o : Orders, ∃ check : Byte, o.bytes = [0x7A, 0x11,
      match o.lance with
        | .parked => 0
        | .seat k => byte k
        | .stay => 9,
      match o.supply with
        | none => 0xFF
        | some u => byte u.code,
      if o.drain then 1 else 0, if o.fill then 1 else 0, if o.probe then 1 else 0, check] ∧
    (o.bytes.drop 1).foldl (· + ·) 0 = 0) ∧
  [Result.ok, .badLength, .badValue, .unknownKind, .notPermitted, .wrongMode, .wrongState, .noSpace, .backlog, .noLine, .forbidden,
    .classShort].map Result.code = [0, 1, 2, 3, 4, 5, 6, 7, 8, 9, 10, 11] ∧
  [RejectReason.badLength, .gap, .badCrc, .badKind, .overrun].map RejectReason.code = [1, 2, 3, 4, 5] ∧
  [EventKind.stepDone, .programEnd, .verdict, .certIssued, .fillDone, .fillRefused, .fault, .referral, .overfill, .utilityLost,
    .utilityBack, .auditHold, .backlog, .modeChange].map EventKind.code = [1, 2, 3, 4, 5, 6, 7, 8, 9, 10, 11, 12, 13, 14] ∧
  [Reason.aborted, .underrun, .stepLimit, .badStep, .noFlow, .coldSupply, .drainStuck, .flooded, .lanceLost, .scanStall, .verdict,
    .referralRejected, .seatTimeout].map Reason.code = [1, 2, 3, 4, 5, 6, 7, 8, 9, 10, 11, 12, 13] ∧
  [FillOutcome.complete, .highLevel, .cancelled, .lanceLost].map FillOutcome.code = [0, 1, 2, 3] ∧
  [FillCause.noFlow, .cancelFill, .noLine, .forbidden, .classShort].map FillCause.code = [0, 1, 2, 3, 4] ∧
  [StepKind.blank, .flush, .blow, .soak, .inspect].map StepKind.code = [0, 1, 2, 3, 4] ∧
  (∀ k, Judgement.code (.pass k) = k) ∧ Judgement.code .rewash = 0x10 ∧ Judgement.code .refer = 0x11 ∧
  [UtilId.hotWater, .caustic, .acid, .steam, .dryer, .fillA, .fillB].map utilCode = [0, 1, 2, 3, 4, 5, 6] ∧
  [WashUtil.hotWater, .caustic, .acid, .steam, .dryer].map WashUtil.code = [0, 1, 2, 3, 4] ∧
  [Mode.dormant, .run, .stopped].map Mode.code = [0, 1, 2] ∧
  [ModeCause.setMode, .stopLine, .mark7, .restart].map ModeCause.code = [0, 1, 2, 3]

/-- A frame ended by an error or by the gap timer leaves the receiver hunting and a REJECT pending: a new one with lost count 1, or the
pending one with the new reason and a count one higher, at most 255. The row's four errors are the reasons of their names. Making a REJECT
leaves the receiver, the gap timer, the buffer, the request in hand and its reply as they are. That the row REJECT is such an end of a frame, whatever bytes came before
it, and is OVERRUN only where the buffer is full and without effect elsewhere, is the model's choice (log 24); so is that the row GAP while
hunting or with the gap timer stopped has no effect (log 13). Nothing else changes before the transmitters choose. A REJECT
was made first exactly where no reply waited at its making, or it was pending when the reply was made; that an error folded into the pending
REJECT leaves its place before or behind the reply is the model's reading (log 28). When a reply's last byte is out the link
has no request in hand and takes the frame in its buffer, if there is one; after a REJECT or a notice the transmitter is free and the request in
hand, if any, stays; with nothing going out nothing changes (log 13). -/
def Obligations.FrameErrorsMakeOneRejectAndSentFramesFreeTheLink : Prop :=
  (∀ (l : LinkId) (e : FrameError) (s : State), s.pins.resetHeld = false → (e = .overrun → (s.link l).buffer.isSome = true) →
    exec (.reject l e) s = .next (s.setLink l ((s.link l).hunt.fail (rejectReasonOf e))).choose) ∧
  (∀ (l : LinkId) (s : State), s.pins.resetHeld = false → (s.link l).assembly ≠ .hunting → (s.link l).gapTimer = true →
    exec (.gap l) s = .next (s.setLink l ((s.link l).hunt.fail .gap)).choose) ∧
  (∀ (l : LinkId) (s : State), s.pins.resetHeld = false →
    ((s.link l).buffer = none → exec (.reject l .overrun) s = .next s.choose) ∧
    (((s.link l).assembly = .hunting ∨ (s.link l).gapTimer = false) → exec (.gap l) s = .next s.choose)) ∧
  (∀ (x : Link) (reason : RejectReason), x.reject = none →
    (x.fail reason).reject = some { reason := reason, lost := 1 } ∧ (x.fail reason).rejectFirst = decide (x.reply = none)) ∧
  (∀ (x : Link) (reason : RejectReason) (r : Reject), x.reject = some r →
    (x.fail reason).reject = some { reason := reason, lost := min 255 (r.lost + 1) } ∧ (x.fail reason).rejectFirst = x.rejectFirst) ∧
  (∀ (x : Link) (reason : RejectReason), (x.fail reason).assembly = x.assembly ∧ (x.fail reason).gapTimer = x.gapTimer ∧
    (x.fail reason).buffer = x.buffer ∧ (x.fail reason).inHand = x.inHand ∧ (x.fail reason).reply = x.reply ∧
    (x.fail reason).sending = x.sending) ∧
  (∀ x : Link, x.hunt = { x with assembly := .hunting, gapTimer := false }) ∧
  [FrameError.badLength, .badCrc, .badKind, .overrun].map rejectReasonOf = [.badLength, .badCrc, .badKind, .overrun] ∧
  (∀ (x : Link) (f : Frame), x.answer f = { x with inHand := true, reply := some f, rejectFirst := decide (x.reject ≠ none) }) ∧
  (∀ (l : LinkId) (s : State), s.pins.resetHeld = false →
    (∀ f, (s.link l).sending = some (.reply f) → (s.link l).buffer = none →
      exec (.frameSent l) s = .next (s.setLink l { s.link l with sending := none, inHand := false }).choose) ∧
    (∀ f g, (s.link l).sending = some (.reply f) → (s.link l).buffer = some g →
      exec (.frameSent l) s = .next ((s.setLink l { s.link l with sending := none, inHand := false, buffer := none }).takeFrame l
        g.kind g.tag (readRequest g.kind g.body)).choose) ∧
    (∀ r, (s.link l).sending = some (.reject r) → ((s.link l).inHand = true ∨ (s.link l).buffer = none) →
      exec (.frameSent l) s = .next (s.setLink l { s.link l with sending := none }).choose) ∧
    (∀ n, (s.link l).sending = some (.notice n) → ((s.link l).inHand = true ∨ (s.link l).buffer = none) →
      exec (.frameSent l) s = .next (s.setLink l { s.link l with sending := none }).choose) ∧
    ((s.link l).sending = none → ((s.link l).inHand = true ∨ (s.link l).buffer = none) →
      exec (.frameSent l) s = .next s.choose))

/-- The receiver's table: what a byte does in HUNTING, LENGTH, CONTENT and at the first check byte, and that the second check byte has
the frame judged with the receiver hunting again. -/
def Obligations.LinkReceiverFollowsTheTable : Prop :=
  ∀ (l : LinkId) (b : Byte) (s : State), s.pins.resetHeld = false →
    ((s.link l).assembly = .hunting → b = 0x5E →
      exec (.frameByteReceived l b) s = .next (s.setLink l { s.link l with assembly := .length, gapTimer := true }).choose) ∧
    ((s.link l).assembly = .hunting → b ≠ 0x5E → exec (.frameByteReceived l b) s = .next s.choose) ∧
    ((s.link l).assembly = .length → 3 ≤ b.toNat → b.toNat ≤ 250 →
      exec (.frameByteReceived l b) s = .next (s.setLink l { s.link l with assembly := .content b [], gapTimer := true }).choose) ∧
    ((s.link l).assembly = .length → (b.toNat < 3 ∨ 250 < b.toNat) →
      exec (.frameByteReceived l b) s = .next (s.setLink l ((s.link l).hunt.fail .badLength)).choose) ∧
    (∀ len got, (s.link l).assembly = .content len got → got.length + 1 < len.toNat →
      exec (.frameByteReceived l b) s =
        .next (s.setLink l { s.link l with assembly := .content len (got ++ [b]), gapTimer := true }).choose) ∧
    (∀ len got, (s.link l).assembly = .content len got → got.length + 1 = len.toNat →
      exec (.frameByteReceived l b) s =
        .next (s.setLink l { s.link l with assembly := .check len (got ++ [b]) [], gapTimer := true }).choose) ∧
    (∀ len content, (s.link l).assembly = .check len content [] →
      exec (.frameByteReceived l b) s =
        .next (s.setLink l { s.link l with assembly := .check len content [b], gapTimer := true }).choose) ∧
    (∀ len kind tag body high, (s.link l).assembly = .check len (kind :: tag :: body) [high] →
      crc16 (len :: kind :: tag :: body) = high ++ b → kind.toNat < 0x40 →
      exec (.frameByteReceived l b) s = .next ((s.setLink l (s.link l).hunt).arrive l { kind := kind, tag := tag, body := body }
        (readRequest kind body)).choose) ∧
    (∀ len kind tag body high, (s.link l).assembly = .check len (kind :: tag :: body) [high] →
      crc16 (len :: kind :: tag :: body) = high ++ b → 0x40 ≤ kind.toNat →
      exec (.frameByteReceived l b) s = .next (s.setLink l ((s.link l).hunt.fail .badKind)).choose) ∧
    (∀ len content high, (s.link l).assembly = .check len content [high] → crc16 (len :: content) ≠ high ++ b →
      exec (.frameByteReceived l b) s = .next (s.setLink l ((s.link l).hunt.fail .badCrc)).choose)

/-- The bytes of a well-formed request row's frame, received one after another by a hunting receiver of a machine whose transmitters
have nothing left to choose, do what the row does, the other link's and the plant's events apart. -/
def Obligations.ReceivedFrameBytesDoWhatTheRowDoes : Prop :=
  ∀ (c : Instr) (l : LinkId) (tag : Byte) (r : Request) (s : State), c.wf = true → asRequest c = some (l, tag, r) →
    s.pins.resetHeld = false → (s.link l).assembly = .hunting → (s.link l).gapTimer = false → s.choose = s →
    ∃ t, exec c s = .next t ∧
      Host.Core.run Sys2Proof.core (r.frame tag).wire.length
        { s with pending := (r.frame tag).wire.map (Instr.frameByteReceived l) ++ s.pending } = .next t

/-- Every well-formed request row's kind and body are read back as the same request, every field at every value; a body of its kind's length is
read field by field in the order of 11.4, numbers high byte first. Each reader of a field's code reads the codes of 11.2, and the numbers of its
range, as the values they name and nothing else. -/
def Obligations.RequestsAndTheirCodesAreRead : Prop :=
  (∀ (c : Instr) (l : LinkId) (tag : Byte) (r : Request), c.wf = true → asRequest c = some (l, tag, r) →
    readRequest r.kind r.body = .request r) ∧
  (∀ a b c d e f : Byte,
    readRequest 0x01 [a] = .request .ident ∧ readRequest 0x02 [a] = .request (.setMode a) ∧ readRequest 0x03 [a] = .request .restart ∧
    readRequest 0x04 [a, b, c, d] = .request (.linkSetup a b (c ++ d)) ∧ readRequest 0x05 [a, b, c, d] = .request (.setClock (a ++ b ++ c ++ d)) ∧
    readRequest 0x06 [a, b, c, d, e] = .request (.setTiming a b c d e) ∧ readRequest 0x07 [a, b] = .request (.setAudit a b) ∧
    readRequest 0x08 [a, b, c, d] = .request (.setCertBase (a ++ b ++ c ++ d)) ∧ readRequest 0x09 [a, b] = .request (.mark a b) ∧
    readRequest 0x11 [a] = .request (.readCarryover a) ∧ readRequest 0x13 [a, b] = .request (.readVerdict a b) ∧
    readRequest 0x14 [a, b] = .request (.stepWindow a b) ∧ readRequest 0x16 [a, b] = .request (.stepRead a b) ∧
    readRequest 0x18 [a, b, c, d] = .request (.setUtility a b c d) ∧ readRequest 0x19 [a] = .request .utilityStatus ∧
    readRequest 0x21 [a] = .request (.depart a) ∧ readRequest 0x22 [a] = .request (.bayClear a) ∧
    readRequest 0x23 [a, b, c, d, e, f] = .request (.assign a b c d e f) ∧ readRequest 0x24 [a, b, c] = .request (.extend a b c) ∧
    readRequest 0x25 [a] = .request (.abort a) ∧ readRequest 0x26 [a] = .request (.hold a) ∧ readRequest 0x27 [a] = .request (.resume a) ∧
    readRequest 0x28 [a, b, c, d, e] = .request (.orderFill a b c (d ++ e)) ∧ readRequest 0x29 [a, b] = .request (.cancelFill a b) ∧
    readRequest 0x2A [a, b, c, d] = .request (.ruleReferral a b c d) ∧ readRequest 0x30 [a] = .request (.certRead a) ∧
    readRequest 0x31 [a] = .request (.certRetire a) ∧ readRequest 0x32 [a] = .request .auditRelease ∧
    readRequest 0x38 [a] = .request (.bayStatus a) ∧ readRequest 0x39 [a, b] = .request (.compartmentStatus a b) ∧
    readRequest 0x3A [a, b, c, d, e] = .request (.mapRead a b c d e) ∧ readRequest 0x3B [a] = .request (.pendingRead a)) ∧
  (∀ (a b c d e : Byte) (xs : List Byte) (v : Vector Byte 16) (rs : List RawStep),
    readRequest 0x10 (a :: v.toList) = .request (.loadCarryover a v) ∧
    (xs.length ≤ 255 → readRequest 0x12 (a :: byte xs.length :: xs) = .request (.loadVerdict a xs) ∧
      readRequest 0x20 (a :: b :: c :: d :: e :: byte xs.length :: xs) = .request (.admitVisit a (b ++ c ++ d) e xs) ∧
      readRequest 0x3C (a :: byte xs.length :: xs) = .request (.pendingClear a xs)) ∧
    (rs.length ≤ 255 → readRequest 0x15 (byte rs.length :: rs.flatMap fun r =>
      [r.kind, r.flags, r.utility, r.amountHigh, r.amountLow, r.minTemp, r.stall, r.next, r.firstRing, r.lastRing, r.firstSector,
        r.lastSector, r.order, r.threshold, r.ignored14, r.ignored15]) = .request (.stepWrite rs))) ∧
  (∀ x : Byte,
    (∀ v, bool? x = some v ↔ x = if v then 1 else 0) ∧ (∀ v, priority? x = some v ↔ x = if v then 1 else 0) ∧
    (∀ b, bay? x = some b ↔ x.toNat = b.val + 1) ∧ (∀ sc, scope? x = some sc ↔ x.toNat = sc.val) ∧
    (stepIx x).val = x.toNat ∧ (∀ g, cargo? x = some g ↔ x.toNat = g.val) ∧ (∀ k, class? x = some k ↔ x.toNat = k ∧ 1 ≤ k ∧ k ≤ 7) ∧
    (∀ r, ring? x = some r ↔ x.toNat = r.val) ∧ (∀ c, sector? x = some c ↔ x.toNat = c.val) ∧
    (∀ m, mark? x = some m ↔ x.toNat = m.val) ∧
    (∀ o, markOp? x = some o ↔ x.toNat = match o with
      | .test => 0
      | .set => 1
      | .clear => 2
      | .flip => 3) ∧
    (∀ o, scanOrder? x = some o ↔ x.toNat = match o with
      | .ringUp => 0
      | .ringDown => 1
      | .sectorUp => 2
      | .sectorDown => 3) ∧
    (∀ last, (chain? x last = some .follow ↔ x.toNat = 0) ∧
      ∀ i, chain? x last = some (.bounded i) ↔ x.toNat = 1 ∧ last.toNat = i.val) ∧
    (∀ u, washUtil? x = some u ↔ x.toNat = match u with
      | .hotWater => 0
      | .caustic => 1
      | .acid => 2
      | .steam => 3
      | .dryer => 4) ∧
    (∀ k, index? x = some k ↔ x.toNat = k ∧ 1 ≤ k ∧ k ≤ 8) ∧
    (∀ m, mode? x = some m ↔ x.toNat = match m with
      | .dormant => 0
      | .run => 1
      | .stopped => 2) ∧
    (∀ u, util? x = some u ↔ x.toNat = match u with
      | .hotWater => 0
      | .caustic => 1
      | .acid => 2
      | .steam => 3
      | .dryer => 4
      | .fillA => 5
      | .fillB => 6) ∧
    (∀ p, prior? x = some p ↔ x.toNat = match p with
      | none => 0x10
      | some c => c.val) ∧
    (∀ g, cargoOrNone? x = some g ↔ x.toNat = match g with
      | none => 0xFF
      | some c => c.val) ∧
    (carryEntry? x = some .forbidden ↔ x = 0x0F) ∧ (∀ k, carryEntry? x = some (.required k) ↔ x.toNat = k ∧ 1 ≤ k ∧ k ≤ 7) ∧
    (judgement? x = some .rewash ↔ x = 0x10) ∧ (judgement? x = some .refer ↔ x = 0x11) ∧
    (∀ k, judgement? x = some (.pass k) ↔ x.toNat = k ∧ 1 ≤ k ∧ k ≤ 7) ∧
    (∀ k, eventKind? x = some k ↔ x.toNat = match k with
      | .stepDone => 1
      | .programEnd => 2
      | .verdict => 3
      | .certIssued => 4
      | .fillDone => 5
      | .fillRefused => 6
      | .fault => 7
      | .referral => 8
      | .overfill => 9
      | .utilityLost => 10
      | .utilityBack => 11
      | .auditHold => 12
      | .backlog => 13
      | .modeChange => 14))

/-- A transmitter that is sending keeps its frame, and what waits stays as it is. The next frame of a free transmitter: the reply or the REJECT,
whichever was made first, and on the office link, with neither waiting and output on, the oldest urgent notice before the oldest routine one;
with nothing to choose it stays as it is. The panel link sends no notice. The choice leaves each link's receiver, buffer and request in hand as
they are, and everything else of the machine but the notice unit that loses a notice. -/
def Obligations.FreeTransmittersChooseInOrder : Prop :=
  ∀ s : State,
    (∀ l, (s.link l).sending ≠ none → s.choose.link l = s.link l) ∧
    (s.office.sending ≠ none → s.choose.notices = s.notices) ∧
    (s.panel.sending = none → s.panel.reply = none → s.panel.reject = none → s.choose.panel = s.panel) ∧
    (s.office.sending = none → s.office.reply = none → s.office.reject = none →
      (s.notices.output = false ∨ (s.notices.urgent = [] ∧ s.notices.routine = [])) →
      s.choose.office = s.office ∧ s.choose.notices = s.notices) ∧
    (∀ l f, (s.link l).sending = none → (s.link l).reply = some f → ((s.link l).reject = none ∨ (s.link l).rejectFirst = false) →
      s.choose.link l = { s.link l with sending := some (.reply f), reply := none }) ∧
    (∀ l r, (s.link l).sending = none → (s.link l).reject = some r → ((s.link l).reply = none ∨ (s.link l).rejectFirst = true) →
      s.choose.link l = { s.link l with sending := some (.reject r), reject := none, rejectFirst := false }) ∧
    (∀ n rest, s.office.sending = none → s.office.reply = none → s.office.reject = none → s.notices.output = true →
      s.notices.urgent = n :: rest →
      s.choose.office = { s.office with sending := some (.notice n) } ∧
        s.choose.notices = ({ s.notices with urgent := rest } : NoticeUnit).judge true) ∧
    (∀ n rest, s.office.sending = none → s.office.reply = none → s.office.reject = none → s.notices.output = true →
      s.notices.urgent = [] → s.notices.routine = n :: rest →
      s.choose.office = { s.office with sending := some (.notice n) } ∧
        s.choose.notices = ({ s.notices with routine := rest } : NoticeUnit).judge false) ∧
    (s.notices.output = false → s.choose.notices = s.notices) ∧
    (∀ n, s.choose.panel.sending = some (.notice n) → s.panel.sending = some (.notice n)) ∧
    (∀ l, (s.choose.link l).assembly = (s.link l).assembly ∧ (s.choose.link l).gapTimer = (s.link l).gapTimer ∧
      (s.choose.link l).buffer = (s.link l).buffer ∧ (s.choose.link l).inHand = (s.link l).inHand) ∧
    s.choose = { s with office := s.choose.office, panel := s.choose.panel, notices := s.choose.notices }

/-! ## Settings, tables and reads -/

/-- IDENT from either link and in every mode. -/
def Obligations.IdentReportsThePart : Prop :=
  ∀ (l : LinkId) (tag : Byte) (s : State), s.LinkFree l →
    exec (.ident l tag) s = .next (s.answered l 0x01 tag
      (.ok [0x06, 0x40, 3, 6, 32, 0x01, 0x00, 24, byte s.mode.code, flag s.stopLevel, byte s.officeRate]))

/-- SET_TIMING stores all five limits at once, or none where one is 0. -/
def Obligations.SetTimingStoresTheFiveLimits : Prop :=
  ∀ (tag a b c d e : Byte) (s : State), s.LinkFree .office →
    (a ≠ 0 → b ≠ 0 → c ≠ 0 → d ≠ 0 → e ≠ 0 →
      exec (.setTiming .office tag a b c d e) s = .next
        (({ s with timing := { seat := a.toNat, cold := b.toNat, drain := c.toNat, starve := d.toNat, fillStall := e.toNat } } :
          State).answered .office 0x06 tag (.ok [a, b, c, d, e]))) ∧
    ((a = 0 ∨ b = 0 ∨ c = 0 ∨ d = 0 ∨ e = 0) →
      exec (.setTiming .office tag a b c d e) s = .next (s.answered .office 0x06 tag (.refuse .badValue)))

/-- The yard clock: a minute tick adds 1, with 0 after 4,294,967,295; SET_CLOCK sets it; an issue fills a certificate with it. -/
def Obligations.TheYardClockCountsMinutes : Prop :=
  (∀ s : State, s.pins.resetHeld = false →
    exec .minuteTick s = .next (s.setCerts { s.certs with clock := (s.certs.clock + 1) % 4294967296 }).choose) ∧
  (∀ (tag : Byte) (n : BitVec 32) (s : State), s.LinkFree .office →
    exec (.setClock .office tag n) s = .next ((s.setCerts { s.certs with clock := n.toNat }).answered .office 0x05 tag (.ok []))) ∧
  (∀ (s : State) (n : Nat) (r : Comp) (f : Bool), (s.fillCert n r f).issueTime = s.certs.clock)

/-- SET_AUDIT stores both values and judges the backlog; a level outside 1 to 24 stores neither. The judgement raises BACKLOG exactly
when the state changes. SET_CERT_BASE: office-only, DORMANT only, on an empty log, a number above 0 (the order of the last two checks: log
29); then the next number is the given one. -/
def Obligations.AuditSettingsAndTheCertificateBaseAreStored : Prop :=
  (∀ (tag p h : Byte) (s : State), s.LinkFree .office →
    (1 ≤ h.toNat → h.toNat ≤ 24 →
      exec (.setAudit .office tag p h) s = .next
        ((s.setCerts { s.certs with period := p.toNat, highWater := h.toNat }).judgeBacklog.answered .office 0x07 tag (.ok [p, h]))) ∧
    ((h.toNat = 0 ∨ 24 < h.toNat) →
      exec (.setAudit .office tag p h) s = .next (s.answered .office 0x07 tag (.refuse .badValue)))) ∧
  (∀ s : State, s.judgeBacklog.certs.backlog = decide (s.certs.highWater ≤ s.certs.log.length)) ∧
  (∀ s : State, s.certs.backlog = decide (s.certs.highWater ≤ s.certs.log.length) → s.judgeBacklog = s) ∧
  (∀ s : State, s.certs.backlog ≠ decide (s.certs.highWater ≤ s.certs.log.length) →
    s.judgeBacklog = (s.setCerts { s.certs with backlog := !s.certs.backlog }).raiseYard
      (.backlog (!s.certs.backlog) s.certs.log.length)) ∧
  (∀ (tag : Byte) (n : BitVec 32) (s : State),
    (s.LinkFree .panel → exec (.setCertBase .panel tag n) s = .next (s.answered .panel 0x08 tag (.refuse .notPermitted))) ∧
    (s.LinkFree .office →
      (s.mode ≠ .dormant → exec (.setCertBase .office tag n) s = .next (s.answered .office 0x08 tag (.refuse .wrongMode))) ∧
      (s.mode = .dormant → s.certs.log ≠ [] →
        exec (.setCertBase .office tag n) s = .next (s.answered .office 0x08 tag (.refuse .wrongState))) ∧
      (s.mode = .dormant → s.certs.log = [] → n = 0 →
        exec (.setCertBase .office tag n) s = .next (s.answered .office 0x08 tag (.refuse .badValue))) ∧
      (s.mode = .dormant → s.certs.log = [] → n ≠ 0 →
        exec (.setCertBase .office tag n) s =
          .next ((s.setCerts { s.certs with next := some n.toNat }).answered .office 0x08 tag (.ok [])))))

/-- LINK_SETUP stores masks, show-masked and output and judges both queues; the kind of code k is masked by bit k − 1 of the field it carried,
and at all times by the mask of that index. A value out of range stores nothing. -/
def Obligations.LinkSetupStoresAndJudges : Prop :=
  (∀ (tag o v : Byte) (m : BitVec 16) (s : State), s.LinkFree .office →
    (o.toNat ≤ 1 → v.toNat ≤ 1 → m.toNat < 2 ^ 14 →
      ∃ u : NoticeUnit,
        u = (({ s.notices with masks := Vector.ofFn fun i => m.getLsbD i.val, showMasked := decide (v.toNat = 1),
                               output := decide (o.toNat = 1) } : NoticeUnit).judge true).judge false ∧
        (∀ k : EventKind, u.masked k = m.getLsbD (k.code - 1)) ∧
        exec (.linkSetup .office tag o v m) s =
          .next ((s.setNotices u).answered .office 0x04 tag (.ok [o, v, m.extractLsb' 8 8, m.extractLsb' 0 8, byte s.officeRate]))) ∧
    ((1 < o.toNat ∨ 1 < v.toNat ∨ 2 ^ 14 ≤ m.toNat) →
      exec (.linkSetup .office tag o v m) s = .next (s.answered .office 0x04 tag (.refuse .badValue)))) ∧
  (∀ (u : NoticeUnit) (k : EventKind) (i : Fin 14), i.val + 1 = k.code → u.masked k = u.masks[i])

/-- READ_CARRYOVER from either link and in every mode: the row echoed and its sixteen entries in column order, or BAD_VALUE. -/
def Obligations.ReadCarryoverReturnsTheRow : Prop :=
  ∀ (l : LinkId) (tag row : Byte) (s : State), s.LinkFree l →
    (∀ c : Cargo, row.toNat = c.val → exec (.readCarryover l tag row) s = .next (s.answered l 0x11 tag
      (.ok (row :: (List.finRange 16).map fun y => byte (s.carryEntry (some c) y).code)))) ∧
    (row.toNat = 16 → exec (.readCarryover l tag row) s = .next (s.answered l 0x11 tag
      (.ok (row :: (List.finRange 16).map fun y => byte (s.carryEntry none y).code)))) ∧
    (16 < row.toNat → exec (.readCarryover l tag row) s = .next (s.answered l 0x11 tag (.refuse .badValue)))

/-- LOAD_CARRYOVER replaces a row whole and answers the row it replaced; one entry out of its table refuses the whole row. A lookup reads the
row of the prior class, the seventeenth for UNKNOWN. -/
def Obligations.LoadCarryoverReplacesTheRowWhole : Prop :=
  ∀ (tag row : Byte) (es : Vector Byte 16) (s : State), s.LinkFree .office →
    (∀ (r : Fin 17) (new : Vector CarryEntry 16), row.toNat = r.val →
      (∀ y : Cargo, carryEntry? es[y] = some new[y]) →
      exec (.loadCarryover .office tag row es) s = .next (({ s with carry := s.carry.set r new } : State).answered .office 0x10 tag
        (.ok (row :: s.carry[r].toList.map fun e => byte e.code)))) ∧
    ((16 < row.toNat ∨ ∃ y : Cargo, carryEntry? es[y] = none) →
      exec (.loadCarryover .office tag row es) s = .next (s.answered .office 0x10 tag (.refuse .badValue))) ∧
    (∀ c : Cargo, s.carryEntry none c = s.carry[16][c] ∧ ∀ p : Cargo, s.carryEntry (some p) c = s.carry[p.val][c]) ∧
    CarryEntry.code .forbidden = 0x0F ∧ (∀ k, CarryEntry.code (.required k) = k)

/-- READ_VERDICT from either link and in every mode: the run of entries from the first index upward, or BAD_VALUE. -/
def Obligations.ReadVerdictReturnsTheRun : Prop :=
  ∀ (l : LinkId) (tag first count : Byte) (s : State), s.LinkFree l →
    (first.toNat ≤ 63 → 1 ≤ count.toNat → count.toNat ≤ 16 → first.toNat + count.toNat ≤ 64 →
      exec (.readVerdict l tag first count) s = .next (s.answered l 0x13 tag
        (.ok (first :: count :: (List.range count.toNat).map fun i => byte (s.verdictAt (first.toNat + i)).code)))) ∧
    ((63 < first.toNat ∨ count.toNat = 0 ∨ 16 < count.toNat ∨ 64 < first.toNat + count.toNat) →
      exec (.readVerdict l tag first count) s = .next (s.answered l 0x13 tag (.refuse .badValue)))

/-- LOAD_VERDICT writes its entries from the first index upward, leaves every other entry, and answers the outcomes it replaced; any
fault refuses the whole request. A verdict index names its entry. -/
def Obligations.LoadVerdictWritesTheRun : Prop :=
  ∀ (tag first : Byte) (os : List Byte) (s : State), s.LinkFree .office →
    (∀ js : List Judgement, os.map judgement? = js.map some → first.toNat ≤ 63 → 1 ≤ os.length → os.length ≤ 16 →
      first.toNat + os.length ≤ 64 →
      ∃ v : Vector Judgement 64,
        exec (.loadVerdict .office tag first os) s = .next (({ s with verdicts := v } : State).answered .office 0x12 tag
          (.ok (first :: byte os.length :: (List.range os.length).map fun i => byte (s.verdictAt (first.toNat + i)).code))) ∧
        ∀ i : Fin 64, v[i] = if first.toNat ≤ i.val ∧ i.val < first.toNat + os.length
          then js.getD (i.val - first.toNat) .refer else s.verdicts[i]) ∧
    ((63 < first.toNat ∨ os.length = 0 ∨ 16 < os.length ∨ 64 < first.toNat + os.length ∨ ∃ o ∈ os, judgement? o = none) →
      exec (.loadVerdict .office tag first os) s = .next (s.answered .office 0x12 tag (.refuse .badValue))) ∧
    (∀ i : Fin 64, s.verdictAt i.val = s.verdicts[i])

/-- STEP_WINDOW: office-only and in every mode, the window takes the two indices and the pointer the first; a first above the last is
refused. -/
def Obligations.StepWindowSetsWindowAndPointer : Prop :=
  ∀ (tag first last : Byte) (s : State),
    (s.LinkFree .panel → exec (.stepWindow .panel tag first last) s = .next (s.answered .panel 0x14 tag (.refuse .notPermitted))) ∧
    (s.LinkFree .office →
      (last.toNat < first.toNat →
        exec (.stepWindow .office tag first last) s = .next (s.answered .office 0x14 tag (.refuse .badValue))) ∧
      (first.toNat ≤ last.toNat →
        exec (.stepWindow .office tag first last) s = .next
          (({ s with store := { s.store with first := stepIx first, last := stepIx last, pointer := stepIx first } } :
            State).answered .office 0x14 tag (.ok [first, last, first]))))

/-- STEP_WRITE: every descriptor judged before any is taken; then one after another at the pointer, written to an unpinned entry and
dropped at a pinned one, the pointer moving on and back from the window's last index to its first. A descriptor is refused for each fault of
its kind's fields, and for no byte its kind does not store (log 17); one accepted is the entry whose sixteen bytes STEP_READ returns: the bytes
written, with those of fields not stored as 0 and the utility of a kind without one as 0xFF. Each kind's entry takes its fields from their own
bytes and flag bits. An entry is pinned exactly while some lane holds a pin on it. -/
def Obligations.StepWriteTakesDescriptorsInOrder : Prop :=
  (∀ (tag : Byte) (rs : List RawStep) (ds : List Descriptor) (s : State), s.LinkFree .office → 1 ≤ rs.length → rs.length ≤ 8 →
    rs.map RawStep.read = ds.map some →
    exec (.stepWrite .office tag rs) s = .next (({ s with store := (s.store.writeAll ds).1 } : State).answered .office 0x15 tag
      (.ok [byte (s.store.writeAll ds).2, byte (ds.length - (s.store.writeAll ds).2), byte (s.store.writeAll ds).1.pointer.val]))) ∧
  (∀ (tag : Byte) (rs : List RawStep) (s : State), s.LinkFree .office →
    (rs.length = 0 ∨ 8 < rs.length ∨ ∃ r ∈ rs, RawStep.read r = none) →
    exec (.stepWrite .office tag rs) s = .next (s.answered .office 0x15 tag (.refuse .badValue))) ∧
  (∀ r : RawStep, RawStep.read r = none ↔
    4 < r.kind.toNat ∨ (r.kind ≠ 0 ∧ 16 ≤ r.flags.toNat) ∨
    ((r.kind = 1 ∨ r.kind = 2) ∧ 4 < r.utility.toNat) ∨
    ((r.kind = 1 ∨ r.kind = 2 ∨ r.kind = 3) ∧ r.amountHigh = 0 ∧ r.amountLow = 0) ∨
    (r.kind = 1 ∧ 20000 < r.amountHigh.toNat * 256 + r.amountLow.toNat) ∨
    ((r.kind = 1 ∨ r.kind = 2) ∧ r.flags.getLsbD 2 = true ∧ 99 < r.minTemp.toNat) ∨
    (r.kind = 1 ∧ r.flags.getLsbD 3 = true ∧ r.stall = 0) ∨
    (r.kind = 4 ∧ (r.flags.getLsbD 3 = false ∨ r.stall = 0 ∨ 15 < r.firstRing.toNat ∨ 15 < r.lastRing.toNat ∨ 11 < r.firstSector.toNat ∨
      11 < r.lastSector.toNat ∨ 3 < r.order.toNat ∨ 7 < r.threshold.toNat))) ∧
  (∀ (r : RawStep) (d : Descriptor), RawStep.read r = some d →
    (r.kind = 0 → d.bytes = [0, 0, 0xFF, 0, 0, 0, 0, 0, 0, 0, 0, 0, 0, 0, 0, 0]) ∧
    (r.kind = 1 → d.bytes = [1, r.flags, r.utility, r.amountHigh, r.amountLow, if r.flags.getLsbD 2 then r.minTemp else 0,
      if r.flags.getLsbD 3 then r.stall else 0, r.next, 0, 0, 0, 0, 0, 0, 0, 0]) ∧
    (r.kind = 2 → d.bytes = [2, r.flags &&& 0x05, r.utility, r.amountHigh, r.amountLow, if r.flags.getLsbD 2 then r.minTemp else 0,
      0, r.next, 0, 0, 0, 0, 0, 0, 0, 0]) ∧
    (r.kind = 3 → d.bytes = [3, r.flags &&& 0x03, 0xFF, r.amountHigh, r.amountLow, 0, 0, r.next, 0, 0, 0, 0, 0, 0, 0, 0]) ∧
    (r.kind = 4 → d.bytes = [4, r.flags &&& 0x09, 0xFF, 0, 0, 0, r.stall, r.next, r.firstRing, r.lastRing, r.firstSector, r.lastSector,
      r.order, r.threshold, 0, 0])) ∧
  (∀ (r : RawStep) (d : Descriptor) (amount : Nat), RawStep.read r = some d → amount = r.amountHigh.toNat * 256 + r.amountLow.toNat →
    (r.kind = 0 → d = .blank) ∧
    (r.kind = 1 → ∃ u, washUtil? r.utility = some u ∧
      d = .flush u amount (if r.flags.getLsbD 2 then some r.minTemp.toNat else none) (if r.flags.getLsbD 3 then some r.stall.toNat else none)
        (r.flags.getLsbD 1) (r.flags.getLsbD 0) (stepIx r.next)) ∧
    (r.kind = 2 → ∃ u, washUtil? r.utility = some u ∧
      d = .blow u amount (if r.flags.getLsbD 2 then some r.minTemp.toNat else none) (r.flags.getLsbD 0) (stepIx r.next)) ∧
    (r.kind = 3 → d = .soak amount (r.flags.getLsbD 1) (r.flags.getLsbD 0) (stepIx r.next)) ∧
    (r.kind = 4 → ∃ w o, scanOrder? r.order = some o ∧ w.firstRing.val = r.firstRing.toNat ∧ w.lastRing.val = r.lastRing.toNat ∧
      w.firstSector.val = r.firstSector.toNat ∧ w.lastSector.val = r.lastSector.toNat ∧
      d = .inspect w o r.threshold.toNat r.stall.toNat (r.flags.getLsbD 0) (stepIx r.next))) ∧
  (∀ (t : StepStore) (i : StepIx), t.pinned i = true ↔ ∃ b : Bay, t.pins[b] = some i) ∧
  (∀ t : StepStore, t.writeAll [] = (t, 0)) ∧
  (∀ (t : StepStore) (d : Descriptor) (ds : List Descriptor),
    ∃ u : StepStore,
      u.pointer = (if t.pointer = t.last then t.first else t.pointer + 1) ∧ u.first = t.first ∧ u.last = t.last ∧ u.pins = t.pins ∧
      (t.pinned t.pointer = true → u.entries = t.entries ∧ t.writeAll (d :: ds) = u.writeAll ds) ∧
      (t.pinned t.pointer = false → u.entries = t.entries.set t.pointer d ∧
        t.writeAll (d :: ds) = ((u.writeAll ds).1, (u.writeAll ds).2 + 1)))

/-- STEP_READ from either link: the count's worth of entries round the whole store, each with its pinned indication, then the window. -/
def Obligations.StepReadReturnsConsecutiveEntries : Prop :=
  ∀ (l : LinkId) (tag index count : Byte) (s : State), s.LinkFree l →
    (1 ≤ count.toNat → count.toNat ≤ 8 →
      exec (.stepRead l tag index count) s = .next (s.answered l 0x16 tag (.ok (count ::
        ((List.range count.toNat).flatMap (fun i =>
          byte (index.toNat + i) :: flag (s.store.pinned (stepIx (byte (index.toNat + i)))) ::
            (s.entry (stepIx (byte (index.toNat + i)))).bytes) ++
        [byte s.store.first.val, byte s.store.last.val, byte s.store.pointer.val]))))) ∧
    ((count.toNat = 0 ∨ 8 < count.toNat) →
      exec (.stepRead l tag index count) s = .next (s.answered l 0x16 tag (.refuse .badValue)))

/-- An accepted SET_UTILITY stores the three settings; while the utility stays in service and its capacity does not rise, or stays out of
service whatever the capacity, that is all. A loss makes every grant a kept claim, in the order of granting and behind a claim that waits where
priority and number are equal (log 32), and suspends its lane; a return has the queue judged and UTILITY_BACK raised after the grants it counts (log 9); a capacity raised in
service has the queue judged. Limited follows the arrival counter (log 23). The refusals, an unknown utility, offline byte or cargo code among
them, change nothing. -/
def Obligations.SetUtilityStoresSettingsOrRefuses : Prop :=
  (∀ (tag ub capacity off cargo : Byte) (s : State), s.LinkFree .office →
    (6 < ub.toNat ∨ 1 < off.toNat ∨ (15 < cargo.toNat ∧ cargo.toNat ≠ 255)) →
    exec (.setUtility .office tag ub capacity off cargo) s = .next (s.answered .office 0x18 tag (.refuse .badValue))) ∧
  (∀ u : UtilId, isFillLine u = decide (u = .fillA ∨ u = .fillB)) ∧
  (∀ x : Util, x.inService = decide (x.offline = false ∧ x.fault = false)) ∧
  (∀ (tag ub capacity off cargo : Byte) (u : UtilId) (o : Bool) (g : Option Cargo) (s : State), s.LinkFree .office →
    util? ub = some u → bool? off = some o → cargoOrNone? cargo = some g →
    (6 < capacity.toNat → exec (.setUtility .office tag ub capacity off cargo) s =
      .next (s.answered .office 0x18 tag (.refuse .badValue))) ∧
    (capacity.toNat ≤ 6 → isFillLine u = false → g ≠ none → exec (.setUtility .office tag ub capacity off cargo) s =
      .next (s.answered .office 0x18 tag (.refuse .badValue))) ∧
    (capacity.toNat ≤ 6 → isFillLine u = true → g ≠ (s.util u).cargo → ((s.util u).grants ≠ [] ∨ (s.util u).claims ≠ []) →
      exec (.setUtility .office tag ub capacity off cargo) s = .next (s.answered .office 0x18 tag (.refuse .wrongState))) ∧
    (capacity.toNat ≤ 6 → (isFillLine u = true ∨ g = none) →
      (isFillLine u = false ∨ g = (s.util u).cargo ∨ ((s.util u).grants = [] ∧ (s.util u).claims = [])) →
      ∃ t : State,
        exec (.setUtility .office tag ub capacity off cargo) s = .next (t.answered .office 0x18 tag
          { result := .ok, fields := t.utilBytes u, limited := (t.util u).counter == 4294967295, prior := false }) ∧
        ((o = (s.util u).offline ∨ (s.util u).fault = true) → capacity.toNat ≤ (s.util u).capacity →
          t = s.setUtil u { s.util u with cargo := g, capacity := capacity.toNat, offline := o }) ∧
        ((s.util u).inService = false → (o = true ∨ (s.util u).fault = true) →
          t = s.setUtil u { s.util u with cargo := g, capacity := capacity.toNat, offline := o }) ∧
        (o = true → (s.util u).inService = true →
          t = ((((s.util u).grants.foldl (fun q c => q.suspend c.lane) (s.setUtil u
            { s.util u with cargo := g, capacity := capacity.toNat, offline := true, grants := [],
                            claims := (s.util u).grants.foldl (fun q c => insertClaim { c with kept := true } q) (s.util u).claims }))
            ).raiseYard (.utilityLost u false (s.util u).grants.length))) ∧
        (o = false → (s.util u).offline = true → (s.util u).fault = false →
          t = (s.setUtil u { s.util u with cargo := g, capacity := capacity.toNat, offline := false, returning := some 0 }).settle
            [.judge u, .back u]) ∧
        (o = false → (s.util u).inService = true → (s.util u).capacity < capacity.toNat →
          t = (s.setUtil u { s.util u with cargo := g, capacity := capacity.toNat, offline := false }).settle [.judge u])))

/-- The four MARK operations on a mark 0 to 31: the new value of the operation's table, Prior carrying the old; a mark above 31 is refused, and so
is an operation not in the list, which only a frame can carry; that its refusal has Prior clear, whatever the mark it names, is the model's reading
(log 33).
A mark that keeps its value, or one that is not wired, has no further effect. Marks 1 to 6 act when their value changes, whichever operation
changes it: mark n adds LOCKOUT to lane n or removes it. Mark 7 set in RUN stops the yard, the mode set before the lanes act (log 26) and the
lanes taking STOP in ascending order (log 8); cleared, or set in another mode, it has no further effect. -/
def Obligations.MarksTakeTheirValuesAndActWhereWired : Prop :=
  (∀ (l : LinkId) (tag mark : Byte) (s : State), s.LinkFree l → 31 < mark.toNat →
    ∀ c ∈ [Instr.markTest l tag mark, .markSet l tag mark, .markClear l tag mark, .markFlip l tag mark],
      exec c s = .next (s.answered l 0x09 tag (.refuse .badValue))) ∧
  (∀ (op mark : Byte) (s : State), 3 < op.toNat → answer (.mark op mark) s = (s, .refuse .badValue)) ∧
  (∀ (l : LinkId) (tag mark : Byte) (m : Fin 32) (s : State), s.LinkFree l → mark.toNat = m.val →
    exec (.markTest l tag mark) s = .next (s.answered l 0x09 tag
      { result := .ok, fields := [mark, flag s.marks[m]], limited := false, prior := s.marks[m] }) ∧
    (s.marks[m] = true → exec (.markSet l tag mark) s = .next (s.answered l 0x09 tag
      { result := .ok, fields := [mark, 1], limited := false, prior := true })) ∧
    (s.marks[m] = false → exec (.markClear l tag mark) s = .next (s.answered l 0x09 tag
      { result := .ok, fields := [mark, 0], limited := false, prior := false })) ∧
    (∀ c, s.marks[m] = false → (c = Instr.markSet l tag mark ∨ c = .markFlip l tag mark) →
      ∃ t : State,
        exec c s = .next (t.answered l 0x09 tag { result := .ok, fields := [mark, 1], limited := false, prior := false }) ∧
        ((m.val = 0 ∨ 8 ≤ m.val) → t = { s with marks := s.marks.set m true }) ∧
        (∀ b : Bay, m.val = b.val + 1 → t = ({ s with marks := s.marks.set m true } : State).settle [.hold b .lockout]) ∧
        (m.val = 7 → s.mode ≠ .run → t = { s with marks := s.marks.set m true }) ∧
        (m.val = 7 → s.mode = .run → t = ({ s with marks := s.marks.set m true, mode := .stopped } : State).settle
          [.hold 0 .stop, .hold 1 .stop, .hold 2 .stop, .hold 3 .stop, .hold 4 .stop, .hold 5 .stop,
            .modeChange .run .stopped .mark7])) ∧
    (∀ c, s.marks[m] = true → (c = Instr.markClear l tag mark ∨ c = .markFlip l tag mark) →
      ∃ t : State,
        exec c s = .next (t.answered l 0x09 tag { result := .ok, fields := [mark, 0], limited := false, prior := true }) ∧
        ((m.val = 0 ∨ 7 ≤ m.val) → t = { s with marks := s.marks.set m false }) ∧
        (∀ b : Bay, m.val = b.val + 1 → t = ({ s with marks := s.marks.set m false } : State).settle [.unhold b .lockout])))

/-- SET_MODE by the mode the yard is in: no change of mode, entry into RUN, STOPPED or DORMANT with the lanes' tasks before MODE_CHANGE, or
WRONG_STATE carrying the mode. A stop standing is the stop line high or mark 7 set. The mode is set before the lanes act (log 26), and they act
in ascending order (log 8); MODE_CHANGE goes into the yard's pending set. At an entry into DORMANT each lane's lance order is parked first, which
in an IDLE lane leaves the orders parked, none, open, closed, off. A value that names no mode is refused. -/
def Obligations.SetModeFollowsItsTable : Prop :=
  (∀ (l : LinkId) (tag x : Byte) (s : State), s.LinkFree l → 2 < x.toNat →
    exec (.setMode l tag x) s = .next (s.answered l 0x02 tag (.refuse .badValue))) ∧
  (∀ (left entered : Mode) (cause : ModeCause) (s : State), act (.modeChange left entered cause) s =
    ({ s with notices := (s.notices.enter 0 (.modeChange left entered cause)).judge true }, [])) ∧
  (∀ s : State, s.parkLanes = { s with lanes := s.parkLanes.lanes, ports := s.parkLanes.ports }) ∧
  (∀ (b : Bay) (m : Lane) (s : State), m = { s.lane b with orders := { (s.lane b).orders with lance := .parked } } →
    s.parkLanes.lane b = (s.setLane b m).lane b ∧ s.parkLanes.port b = (s.setLane b m).port b ∧
    ((s.lane b).st = .idle →
      s.parkLanes.lane b = { s.lane b with orders := { lance := .parked, supply := none, drain := true, fill := false, probe := false } })) ∧
  (∀ (l : LinkId) (tag x : Byte) (asked : Mode) (s : State), s.LinkFree l → mode? x = some asked →
    (asked = s.mode → exec (.setMode l tag x) s = .next (s.answered l 0x02 tag (.ok [x]))) ∧
    (s.mode = .dormant → asked = .run → (s.stopLevel = true ∨ s.marks[7] = true) →
      exec (.setMode l tag x) s = .next ((({ s with mode := .stopped } : State).settle (allBays.map (fun b => .hold b .stop) ++
        [.modeChange .dormant .stopped .setMode])).answered l 0x02 tag (.ok [2]))) ∧
    (s.mode = .dormant → asked = .run → s.stopLevel = false → s.marks[7] = false →
      exec (.setMode l tag x) s = .next ((({ s with mode := .run } : State).settle (allBays.map Task.idle ++
        [.modeChange .dormant .run .setMode])).answered l 0x02 tag (.ok [1]))) ∧
    (s.mode ≠ .stopped → asked = .stopped →
      exec (.setMode l tag x) s = .next ((({ s with mode := .stopped } : State).settle (allBays.map (fun b => .hold b .stop) ++
        [.modeChange s.mode .stopped .setMode])).answered l 0x02 tag (.ok [2]))) ∧
    (s.mode = .stopped → asked = .run → s.stopLevel = false → s.marks[7] = false →
      exec (.setMode l tag x) s = .next ((({ s with mode := .run } : State).settle (allBays.map (fun b => .unhold b .stop) ++
        [.modeChange .stopped .run .setMode])).answered l 0x02 tag (.ok [1]))) ∧
    (s.mode = .stopped → asked = .run → (s.stopLevel = true ∨ s.marks[7] = true) →
      exec (.setMode l tag x) s = .next (s.answered l 0x02 tag
        { result := .wrongState, fields := [2], limited := false, prior := false })) ∧
    (s.mode ≠ .dormant → asked = .dormant → (∃ b, s.visit b ≠ none) →
      exec (.setMode l tag x) s = .next (s.answered l 0x02 tag
        { result := .wrongState, fields := [byte s.mode.code], limited := false, prior := false })) ∧
    (s.mode = .stopped → asked = .dormant → (∀ b, s.visit b = none) →
      exec (.setMode l tag x) s = .next (((({ s with mode := .dormant } : State).parkLanes).settle
        (allBays.map (fun b => .unhold b .stop) ++ [.modeChange .stopped .dormant .setMode])).answered l 0x02 tag (.ok [0]))) ∧
    (s.mode = .run → asked = .dormant → (∀ b, s.visit b = none) →
      exec (.setMode l tag x) s = .next (((({ s with mode := .dormant } : State).parkLanes).settle
        [.modeChange .run .dormant .setMode]).answered l 0x02 tag (.ok [0]))))

/-- A rise of the stop line sets its level and stops a yard in RUN, the mode set before the lanes act (log 26) and the lanes taking STOP in
ascending order (log 8); a fall sets the level low and changes no mode. A rise of a line already high stops a yard in RUN all the same (log
27). -/
def Obligations.TheStopLineStopsARunningYard : Prop :=
  ∀ s : State, s.pins.resetHeld = false →
    (s.mode = .run → exec .stopLineRise s = .next
      (({ s with pins := { s.pins with stop := true }, stopLevel := true, mode := .stopped } : State).settle
        (allBays.map (fun b => .hold b .stop) ++ [.modeChange .run .stopped .stopLine])).choose) ∧
    (s.mode ≠ .run → exec .stopLineRise s =
      .next ({ s with pins := { s.pins with stop := true }, stopLevel := true } : State).choose) ∧
    exec .stopLineFall s = .next ({ s with pins := { s.pins with stop := false }, stopLevel := false } : State).choose

/-- RESTART: what it empties, what it sets, what it keeps, and its one event: from RUN or STOPPED, MODE_CHANGE is the first entry in the emptied
sets, with order number 0, and stands in the yard's set, the order counter at 1, while output is off or the kind masked; otherwise it is logged
in the same event, and the order counter is 0 again. -/
def Obligations.RestartReturnsEveryBlockAndKeepsTheTables : Prop :=
  ∀ (tag : Byte) (s : State), s.LinkFree .office →
    ∃ t : State, exec (.restart .office tag) s = .next (t.answered .office 0x03 tag (.ok [])) ∧
      t.mode = .dormant ∧ t.stopLevel = s.pins.stop ∧ t.records = [] ∧ (∀ b, t.visit b = none) ∧
      (∀ b : Bay, t.lane b = Lane.reset (s.marks[b.val + 1]'(by omega))) ∧
      (∀ (b : Bay) (z : Zone), (t.residue b)[zoneIx z] = none) ∧ (∀ b, t.scan b = none) ∧
      (∀ i, t.store.pinned i = false) ∧ t.store.first = 0 ∧ t.store.last = 255 ∧ t.store.pointer = 0 ∧
      t.store.entries = s.store.entries ∧
      (∀ u, t.util u = { s.util u with fault := s.pins.faults[utilIx u], grants := [], claims := [], counter := 0, returning := none }) ∧
      t.certs = { s.certs with hold := false, withheld := [] } ∧
      t.carry = s.carry ∧ t.verdicts = s.verdicts ∧ t.marks = s.marks ∧ t.timing = s.timing ∧ t.officeRate = s.officeRate ∧
      t.office = s.office ∧ t.panel = s.panel ∧ t.pins = s.pins ∧ t.pending = s.pending ∧ t.freeCount = s.freeCount ∧
      (∀ b, (t.port b).partway = none ∧
        ((s.port b).sending = none → (t.port b).sending = some Orders.reset ∧ (t.port b).due = (s.port b).due) ∧
        (∀ o, (s.port b).sending = some o → (t.port b).sending = some o ∧ (t.port b).due = true)) ∧
      t.notices.masks = s.notices.masks ∧ t.notices.showMasked = s.notices.showMasked ∧ t.notices.output = s.notices.output ∧
      (∀ b : Bay, t.notices.set (bayScope b) = []) ∧ t.notices.routine = [] ∧
      (s.mode = .dormant → t.notices.set 0 = [] ∧ t.notices.urgent = [] ∧ t.notices.counter = 0) ∧
      (s.mode ≠ .dormant → (s.notices.output = false ∨ s.notices.masked .modeChange = true) →
        t.notices.set 0 = [{ event := .modeChange s.mode .dormant .restart, count := 1, order := 0 }] ∧ t.notices.urgent = [] ∧
          t.notices.counter = 1) ∧
      (s.mode ≠ .dormant → s.notices.output = true → s.notices.masked .modeChange = false → t.notices.set 0 = [] ∧
        t.notices.urgent = [{ scope := 0, event := .modeChange s.mode .dormant .restart, count := 1 }] ∧ t.notices.counter = 0) ∧
      (∀ v : Bool, Lane.reset v = { State.reset.lane 0 with holds := { host := false, lockout := v, stop := false } }) ∧
      Orders.reset = { lance := .parked, supply := none, drain := true, fill := false, probe := false }

/-! ## Compartments and visits -/

/-- In DORMANT eleven kinds are refused with WRONG_MODE before any other check of their owners. In RUN and STOPPED a request that acts on
one compartment is refused BAD_VALUE where a field is out of range, WRONG_STATE where the bay has no visit, and BAD_VALUE where the index is
above the visit's count. DEPART, BAY_CLEAR, ABORT, HOLD and RESUME are refused BAD_VALUE for a bay outside 1 to 6. A refusal changes nothing. -/
def Obligations.CompartmentRequestsPassTheFrontEnd : Prop :=
  ∀ (c : Instr) (l : LinkId) (tag : Byte) (r : Request) (s : State), asRequest c = some (l, tag, r) → s.LinkFree l →
    (l = .office ∨ officeOnly r.kind = false) →
    (s.mode = .dormant → r.notInDormant = true → exec c s = .next (s.answered l r.kind tag (.refuse .wrongMode))) ∧
    (∀ bay : Byte, s.mode ≠ .dormant → (bay.toNat = 0 ∨ 6 < bay.toNat) →
      r ∈ [Request.depart bay, .bayClear bay, .abort bay, .hold bay, .resume bay] →
      exec c s = .next (s.answered l r.kind tag (.refuse .badValue))) ∧
    (s.mode ≠ .dormant → r.namesOne = true → r.place? = none → exec c s = .next (s.answered l r.kind tag (.refuse .badValue))) ∧
    (∀ b k, s.mode ≠ .dormant → r.place? = some (b, k) → s.visit b = none →
      exec c s = .next (s.answered l r.kind tag (.refuse .wrongState))) ∧
    (∀ b k v, s.mode ≠ .dormant → r.place? = some (b, k) → s.visit b = some v → v.count < k →
      exec c s = .next (s.answered l r.kind tag (.refuse .badValue)))

/-- ADMIT's refusals in their order, and its acceptance: the visit, and a record for each index with its starting values. -/
def Obligations.AdmitCreatesTheVisitAndItsRecords : Prop :=
  ∀ (l : LinkId) (tag bay : Byte) (fleet : BitVec 24) (prio : Byte) (priors : List Byte) (s : State), s.LinkFree l →
    s.mode ≠ .dormant →
    ((bay.toNat = 0 ∨ 6 < bay.toNat ∨ 1 < prio.toNat ∨ (∃ p ∈ priors, 16 < p.toNat) ∨ fleet.toNat = 0 ∨ 999999 < fleet.toNat ∨
        priors.length = 0 ∨ 8 < priors.length) →
      exec (.admitVisit l tag bay fleet prio priors) s = .next (s.answered l 0x20 tag (.refuse .badValue))) ∧
    (∀ (b : Bay) (ps : List (Option Cargo)), bay.toNat = b.val + 1 → prio.toNat ≤ 1 → priors.map prior? = ps.map some →
      1 ≤ fleet.toNat → fleet.toNat ≤ 999999 → 1 ≤ priors.length → priors.length ≤ 8 →
      (s.visit b ≠ none →
        exec (.admitVisit l tag bay fleet prio priors) s = .next (s.answered l 0x20 tag (.refuse .wrongState))) ∧
      (s.visit b = none → s.certs.backlog = true →
        exec (.admitVisit l tag bay fleet prio priors) s = .next (s.answered l 0x20 tag (.refuse .backlog))) ∧
      (s.visit b = none → s.certs.backlog = false → 32 < s.records.length + priors.length →
        exec (.admitVisit l tag bay fleet prio priors) s = .next (s.answered l 0x20 tag (.refuse .noSpace))) ∧
      (s.visit b = none → s.certs.backlog = false → s.records.length + priors.length ≤ 32 →
        exec (.admitVisit l tag bay fleet prio priors) s = .next
          (((s.setVisit b (some { fleet := fleet.toNat, urgent := decide (prio.toNat = 1), count := priors.length })).setRecords
            (s.records ++ (List.range priors.length).map fun i =>
              { bay := b, index := i + 1, prior := ps.getD i none, st := .admitted, program := none, dirty := none, achieved := 0,
                verdict := none, cert := none, order := none, filled := 0, outcome := none, water := 0, chemical := 0, steam := 0,
                dryer := 0 })).answered l 0x20 tag (.ok [byte (32 - s.records.length - priors.length)]))))

/-- DEPART is refused while a record of the bay is at work or without a visit; else it frees visit and records, drops the FILL entries and
parks the lance. BAY_CLEAR, from the office in every compartment state, stops the lane, empties its queue, takes the bay's records off the
withheld list, and has the arbiter judge the utility the lane let go; a bay with no visit answers OK with no change. The bay's port sends the
orders parked, none, open, closed, off as it sends any change of orders. -/
def Obligations.DepartAndBayClearFreeTheBay : Prop :=
  ∀ (l : LinkId) (tag bay : Byte) (b : Bay) (s : State), s.mode ≠ .dormant → bay.toNat = b.val + 1 →
    (s.LinkFree l →
      (s.visit b = none → exec (.depart l tag bay) s = .next (s.answered l 0x21 tag (.refuse .wrongState))) ∧
      (∀ r ∈ s.records, r.bay = b → (r.st = .queued ∨ r.st = .washing ∨ r.st = .referred ∨ r.st = .awaitCert ∨ r.st = .filling) →
        exec (.depart l tag bay) s = .next (s.answered l 0x21 tag (.refuse .wrongState))) ∧
      (s.visit b ≠ none →
        (∀ r ∈ s.records, r.bay = b → (r.st = .admitted ∨ r.st = .dirty ∨ r.st = .certified ∨ r.st = .filled)) →
        ∃ t : State,
          t = ((s.setLane b { s.lane b with queue := (s.lane b).queue.filter fun e => decide (e.kind ≠ .fill), seated := none,
                                            orders := { (s.lane b).orders with lance := .parked } }).setVisit b none).setRecords
              (s.records.filter fun r => decide (r.bay ≠ b)) ∧
          ((s.lane b).st = .idle →
            (t.lane b).orders = { lance := .parked, supply := none, drain := true, fill := false, probe := false }) ∧
          exec (.depart l tag bay) s = .next (t.answered l 0x21 tag (.ok [byte (32 - t.records.length)])))) ∧
    (s.LinkFree .office →
      (s.visit b = none → exec (.bayClear .office tag bay) s = .next (s.answered .office 0x22 tag (.ok []))) ∧
      (s.visit b ≠ none →
        ∃ t : State,
          t.visit b = none ∧
          (∀ c, c ≠ b → t.visit c = s.visit c ∧ t.lane c = s.lane c ∧ t.port c = s.port c ∧ t.scan c = s.scan c) ∧ t.freeCount = s.freeCount ∧
          t.records = (s.records.filter fun r => decide (r.bay ≠ b)) ∧
          t.certs = { s.certs with withheld := s.certs.withheld.filter fun w => decide (w.bay ≠ b) } ∧
          t.lane b = { s.lane b with st := .idle, current := none, service := none, ret := none, starveRelease := false, queue := [],
                                     seated := none, orders := Orders.reset } ∧
          t.port b = (s.setLane b (t.lane b)).port b ∧
          t.scan b = none ∧ t.store = { s.store with pins := s.store.pins.set b none } ∧ t.maps = s.maps ∧
          t.notices = s.notices ∧ CascadeFrame (s.setVisit b none) t ∧
          (s.holding b = none → t.utils = s.utils ∧
            exec (.bayClear .office tag bay) s = .next (t.answered .office 0x22 tag (.ok []))) ∧
          (∀ u, s.holding b = some u → t.utils = (s.setUtil u ((s.util u).drop b)).utils ∧
            exec (.bayClear .office tag bay) s = .next ((t.settle [.judge u]).answered .office 0x22 tag (.ok [])))))

/-- ASSIGN on an ADMITTED or DIRTY record stores the program, makes it QUEUED and appends a WASH entry, which the lane judges where it became
the head; in any other state it is refused. What finding and changing the record of a bay's compartment are, is said first. -/
def Obligations.AssignQueuesAWash : Prop :=
  (∀ (b : Bay) (k : Nat) (s : State), s.record? b k = s.records.find? fun x => decide (x.bay = b ∧ x.index = k)) ∧
  (∀ (b : Bay) (k : Nat) (f : Comp → Comp) (s : State),
    s.modRecord b k f = { s with records := s.records.map fun x => if x.bay = b ∧ x.index = k then f x else x }) ∧
  ∀ (l : LinkId) (tag bay index head mode last cls : Byte) (b : Bay) (k : Nat) (r : Comp) (s : State), s.LinkFree l →
    s.mode ≠ .dormant → (Request.assign bay index head mode last cls).place? = some (b, k) → s.Names b k r →
    (r.st ≠ .admitted → r.st ≠ .dirty →
      exec (.assign l tag bay index head mode last cls) s = .next (s.answered l 0x23 tag (.refuse .wrongState))) ∧
    ((r.st = .admitted ∨ r.st = .dirty) →
      exec (.assign l tag bay index head mode last cls) s = .next
        ((((s.modRecord b k fun x => { x with
            program := some { head := stepIx head, chain := if mode.toNat = 0 then .follow else .bounded (stepIx last),
                              cls := cls.toNat },
            st := .queued }).setLane b { s.lane b with queue := (s.lane b).queue ++ [{ index := k, kind := .wash }] }).settle
          (if (s.lane b).queue = [] then [.idle b] else [])).answered l 0x23 tag (.ok [])))

/-- EXTEND on a QUEUED or WASHING record with a BOUNDED program sets its last index and answers the old one. It sends a STARVED lane on to the
finished step's next field, records the release of a lane HELD out of STARVED, and otherwise leaves the lane alone; in every other case it is
refused. The lane's orders change only with the state its fetch enters. The release does not test the finished entry's end mark again (log 21),
and where that entry has been made BLANK its next field is the model's free value (log 10). -/
def Obligations.ExtendSetsTheLastIndexAndReleasesAStarvedLane : Prop :=
  ∀ (l : LinkId) (tag bay index new : Byte) (b : Bay) (k : Nat) (r : Comp) (s : State), s.LinkFree l → s.mode ≠ .dormant →
    (Request.extend bay index new).place? = some (b, k) → s.Names b k r →
    ((¬ ((r.st = .queued ∨ r.st = .washing) ∧ ∃ p old, r.program = some p ∧ p.chain = .bounded old)) →
      exec (.extend l tag bay index new) s = .next (s.answered l 0x24 tag (.refuse .wrongState))) ∧
    (∀ (p : Program) (old : StepIx) (t : State), (r.st = .queued ∨ r.st = .washing) → r.program = some p → p.chain = .bounded old →
      t = s.modRecord b k (fun x => { x with program := x.program.map fun p => { p with chain := .bounded (stepIx new) } }) →
      (∀ n, (s.lane b).current = some k → (s.lane b).service = some .wash → (s.lane b).st = .starved →
        (s.entry (s.lane b).index).next? = some n →
        exec (.extend l tag bay index new) s = .next
          ((({ t with lanes := t.lanes.set b { s.lane b with index := n } } : State).settle [.fetch b]).answered l 0x24 tag
            (.ok [byte old.val, 1]))) ∧
      ((s.lane b).current = some k → (s.lane b).service = some .wash → (s.lane b).st = .starved →
        (s.entry (s.lane b).index).next? = none →
        exec (.extend l tag bay index new) s = .next
          ((({ t with freeCount := s.freeCount + 1,
                      lanes := t.lanes.set b { s.lane b with index := Config.freeNext s.freeCount } } : State).settle [.fetch b]).answered
            l 0x24 tag (.ok [byte old.val, 1]))) ∧
      ((s.lane b).current = some k → (s.lane b).service = some .wash → (s.lane b).st = .held → (s.lane b).ret = some .starved →
        exec (.extend l tag bay index new) s = .next
          ((t.setLane b { s.lane b with starveRelease := true }).answered l 0x24 tag (.ok [byte old.val, 1]))) ∧
      (((s.lane b).current ≠ some k ∨ (s.lane b).service ≠ some .wash ∨
          ((s.lane b).st ≠ .starved ∧ ¬ ((s.lane b).st = .held ∧ (s.lane b).ret = some .starved))) →
        exec (.extend l tag bay index new) s = .next (t.answered l 0x24 tag (.ok [byte old.val, 0]))))

/-- ORDER_FILL's checks in their order, with the fields of CLASS_SHORT, and its acceptance: the order stored, and in CERTIFIED a FILL entry
appended unless one waits already. -/
def Obligations.OrderFillIsJudgedAndStored : Prop :=
  ∀ (l : LinkId) (tag bay index cargo : Byte) (target : BitVec 16) (b : Bay) (k : Nat) (r : Comp) (c : Cargo) (s : State), s.LinkFree l →
    s.mode ≠ .dormant → (Request.orderFill bay index cargo target).place? = some (b, k) → s.Names b k r → cargo.toNat = c.val →
    ((r.st = .filling ∨ r.st = .filled) →
      exec (.orderFill l tag bay index cargo target) s = .next (s.answered l 0x28 tag (.refuse .wrongState))) ∧
    (r.st ≠ .filling → r.st ≠ .filled →
      ((s.util .fillA).cargo ≠ some c → (s.util .fillB).cargo ≠ some c →
        exec (.orderFill l tag bay index cargo target) s = .next (s.answered l 0x28 tag (.refuse .noLine))) ∧
      (((s.util .fillA).cargo = some c ∨ (s.util .fillB).cargo = some c) →
        (s.carryEntry r.prior c = .forbidden →
          exec (.orderFill l tag bay index cargo target) s = .next (s.answered l 0x28 tag (.refuse .forbidden))) ∧
        (∀ n, s.carryEntry r.prior c = .required n →
          (r.st = .certified → r.achieved < n →
            exec (.orderFill l tag bay index cargo target) s = .next (s.answered l 0x28 tag
              { result := .classShort, fields := [byte n, byte r.achieved], limited := false, prior := false })) ∧
          (∀ t : State, t = s.modRecord b k (fun x => { x with order := some { cargo := c, target := target.toNat } }) →
            (r.st = .certified → n ≤ r.achieved → { index := k, kind := .fill } ∉ (s.lane b).queue →
              exec (.orderFill l tag bay index cargo target) s = .next
                (((t.setLane b { s.lane b with queue := (s.lane b).queue ++ [{ index := k, kind := .fill }] }).settle
                  (if (s.lane b).queue = [] then [.idle b] else [])).answered l 0x28 tag (.ok [byte n]))) ∧
            ((r.st = .certified → n ≤ r.achieved ∧ { index := k, kind := .fill } ∈ (s.lane b).queue) →
              exec (.orderFill l tag bay index cargo target) s = .next (t.answered l 0x28 tag (.ok [byte n])))))))

/-- CANCEL_FILL by the record's state; and how every fill that ends does so: the claim or grant let go, then the record FILLED with the outcome,
the events of the cause, and the lane IDLE with its lance left as it stood. That its FAULT carries the lane's current index as it stands, whether or not
that entry was executed, is the model's reading (log 31). -/
def Obligations.CancelFillAndTheEndOfAFill : Prop :=
  (∀ (l : LinkId) (tag bay index : Byte) (b : Bay) (k : Nat) (r : Comp) (s : State), s.LinkFree l → s.mode ≠ .dormant →
    (Request.cancelFill bay index).place? = some (b, k) → s.Names b k r →
    ((r.order = none ∨ r.st = .filled) →
      exec (.cancelFill l tag bay index) s = .next (s.answered l 0x29 tag (.refuse .wrongState))) ∧
    (r.order ≠ none → r.st = .certified →
      exec (.cancelFill l tag bay index) s = .next
        ((((s.modRecord b k fun x => { x with order := none }).setLane b
            { s.lane b with queue := (s.lane b).queue.filter fun e => decide (e ≠ { index := k, kind := .fill }) }).settle
          (if (s.lane b).queue.head? = some { index := k, kind := .fill } then [.idle b] else [])).answered l 0x29 tag (.ok []))) ∧
    (r.order ≠ none → r.st = .filling →
      exec (.cancelFill l tag bay index) s = .next ((s.settle [.endFill b .cancelFill]).answered l 0x29 tag (.ok []))) ∧
    (r.order ≠ none → r.st ≠ .certified → r.st ≠ .filling → r.st ≠ .filled →
      exec (.cancelFill l tag bay index) s =
        .next ((s.modRecord b k fun x => { x with order := none }).answered l 0x29 tag (.ok [])))) ∧
  (∀ (b : Bay) (e : FillEnd) (s : State), act (.endFill b e) s = ((s.release b).1, (s.release b).2 ++ [.fillEnded b e])) ∧
  (∀ (b : Bay) (e : FillEnd) (k : Nat) (r : Comp) (o : FillOrder) (s : State), (s.lane b).current = some k → s.record? b k = some r →
    r.order = some o →
    act (.fillEnded b e) s =
      (((match e with
        | .complete => (s.modRecord b k fun x => { x with st := .filled, outcome := some .complete }).raiseBay b
            (.fillDone k o.cargo r.filled .complete none)
        | .stall => ((s.modRecord b k fun x => { x with st := .filled, outcome := some .cancelled }).raiseBay b
            (.fault .noFlow k (s.lane b).index)).raiseBay b (.fillDone k o.cargo r.filled .cancelled (some .noFlow))
        | .highLevel => ((s.modRecord b k fun x => { x with st := .filled, outcome := some .highLevel }).raiseBay b
            (.overfill k r.filled o.target)).raiseBay b (.fillDone k o.cargo r.filled .highLevel none)
        | .lanceLost => ((s.modRecord b k fun x => { x with st := .filled, outcome := some .lanceLost }).raiseBay b
            (.fault .lanceLost k (s.lane b).index)).raiseBay b (.fillDone k o.cargo r.filled .lanceLost none)
        | .cancelFill => (s.modRecord b k fun x => { x with st := .filled, outcome := some .cancelled }).raiseBay b
            (.fillDone k o.cargo r.filled .cancelled (some .cancelFill))
        | .noLine => (s.modRecord b k fun x => { x with st := .filled, outcome := some .cancelled }).raiseBay b
            (.fillDone k o.cargo r.filled .cancelled (some .noLine))).setLane b
        { s.lane b with st := .idle, current := none, service := none, ret := none, starveRelease := false }), [.idle b]))

/-- A fill entering WAIT_RESOURCE closes the drain valve and places one claim, on the line chosen for its order's class; with no line the
fill ends with cause NO_LINE. The choice: the one line that carries the class; of two, one that would grant at once, then one in service, then
the shorter queue, and FILL_A where that leaves both. -/
def Obligations.FillsWaitForALineOfTheirClass : Prop :=
  (∀ (b : Bay) (k : Nat) (r : Comp) (o : FillOrder) (s t : State), (s.lane b).current = some k → (s.lane b).service = some .fill →
    s.record? b k = some r → r.order = some o → t = s.setLane b { s.lane b with st := .waitResource } →
    (t.lane b).orders = { lance := .stay, supply := none, drain := false, fill := false, probe := false } ∧
    (∀ u, s.chooseLine o.cargo = some u → act (.fillWait b) s = (t, [.claim b u])) ∧
    (s.chooseLine o.cargo = none → act (.fillWait b) s = (t, [.endFill b .noLine]))) ∧
  (∀ (c : Cargo) (s : State) (x y : Util) (ready : Util → Prop), x = s.util .fillA → y = s.util .fillB →
    (∀ z, ready z ↔ z.offline = false ∧ z.fault = false ∧ z.grants.length < z.capacity ∧ z.claims = []) →
    (x.cargo ≠ some c → y.cargo ≠ some c → s.chooseLine c = none) ∧
    (x.cargo = some c → y.cargo ≠ some c → s.chooseLine c = some .fillA) ∧
    (x.cargo ≠ some c → y.cargo = some c → s.chooseLine c = some .fillB) ∧
    (x.cargo = some c → y.cargo = some c →
      (ready x → s.chooseLine c = some .fillA) ∧
      (¬ ready x → ready y → s.chooseLine c = some .fillB) ∧
      (¬ ready x → ¬ ready y → x.inService = true → y.inService = false → s.chooseLine c = some .fillA) ∧
      (¬ ready x → ¬ ready y → x.inService = false → y.inService = true → s.chooseLine c = some .fillB) ∧
      (¬ ready x → ¬ ready y → x.inService = y.inService → y.claims.length < x.claims.length → s.chooseLine c = some .fillB) ∧
      (¬ ready x → ¬ ready y → x.inService = y.inService → x.claims.length ≤ y.claims.length → s.chooseLine c = some .fillA)))

/-! ## Certificates and audit -/

/-- RULE_REFERRAL is accepted in REFERRED only: ACCEPT takes the lesser class and hands the record to the certificate unit, REJECT makes it DIRTY.
A record handed over is issued at once outside audit hold with room in the log and a number left, and is withheld otherwise, with the referral
flag its certificate will carry (log 22); no other record changes. Withheld with the numbers spent outside audit hold, it starts audit hold
with cause NUMBERS_SPENT, the audit counter 0, and the event's number that of the last certificate issued (log 16). The lane judges its queue
after the issue's items, where the entry it appended became the head (log 15). -/
def Obligations.ReferredRecordsAreRuledAndRecordsHandedOver : Prop :=
  (∀ (l : LinkId) (tag bay index ruling cls : Byte) (b : Bay) (k : Nat) (r : Comp) (s : State), s.LinkFree l → s.mode ≠ .dormant →
    (Request.ruleReferral bay index ruling cls).place? = some (b, k) → s.Names b k r →
    (r.st ≠ .referred →
      exec (.ruleReferral l tag bay index ruling cls) s = .next (s.answered l 0x2A tag (.refuse .wrongState))) ∧
    (∀ p, r.st = .referred → ruling.toNat = 1 → r.program = some p →
      exec (.ruleReferral l tag bay index ruling cls) s = .next
        (((s.modRecord b k fun x => { x with achieved := min p.cls cls.toNat }).settle [.certify b k true]).answered l 0x2A tag
          (.ok []))) ∧
    (r.st = .referred → ruling.toNat = 0 →
      exec (.ruleReferral l tag bay index ruling cls) s = .next
        ((s.modRecord b k fun x => { x with st := .dirty, dirty := some .referralRejected, achieved := 0 }).answered l 0x2A tag
          (.ok [])))) ∧
  (∀ (b : Bay) (k : Nat) (f : Bool) (r : Comp) (s : State), s.record? b k = some r →
    (∀ n, s.certs.hold = false → s.certs.log.length < 24 → s.certs.next = some n →
      act (.certify b k f) s = (s.issueTo n r f, if (s.lane b).queue = [] then [.idle b] else [])) ∧
    ((s.certs.hold = true ∨ 24 ≤ s.certs.log.length ∨ s.certs.next = none) →
      ∃ t : State, act (.certify b k f) s = (t, []) ∧ t.record? b k = some { r with st := .awaitCert } ∧
        t.records = s.records.map (fun x => if x.bay = b ∧ x.index = k then { x with st := .awaitCert } else x) ∧
        t.lanes = s.lanes ∧ t.utils = s.utils ∧ t.ports = s.ports ∧ t.store = s.store ∧ t.maps = s.maps ∧ t.scans = s.scans ∧
        t.freeCount = s.freeCount ∧ CascadeFrame s t ∧
        ((s.certs.next ≠ none ∨ s.certs.hold = true) →
          t.certs = { s.certs with withheld := s.certs.withheld ++ [⟨b, k, f⟩] } ∧ t.notices = s.notices) ∧
        (s.certs.next = none → s.certs.hold = false →
          t.certs = { s.certs with withheld := s.certs.withheld ++ [⟨b, k, f⟩], hold := true, counter := 0 } ∧
          t.notices = s.notices.raise 0 (.auditHold true 4294967295))))

/-- An issue takes the next number, appends a certificate filled from record, visit and clock, certifies the record, queues a held order's
FILL entry, raises CERT_ISSUED, judges the backlog with its event, and counts the issue, entering audit hold with its event at the period or
with the last number spent. -/
def Obligations.AnIssueDoesItsItems : Prop :=
  ∀ (n : Nat) (r : Comp) (f : Bool) (s t : State), t = s.issueTo n r f →
    t.certs.next = (if n = 4294967295 then none else some (n + 1)) ∧ t.certs.withheld = s.certs.withheld ∧
    (∃ c : Cert, t.certs.log = s.certs.log ++ [c] ∧ c.number = n ∧ c.bay = r.bay ∧ c.index = r.index ∧ c.prior = r.prior ∧
      c.achieved = r.achieved ∧ c.water = r.water ∧ c.chemical = r.chemical ∧ c.steam = r.steam ∧ c.dryer = r.dryer ∧
      c.issueTime = s.certs.clock ∧ c.referral = f ∧ (∀ v, s.visit r.bay = some v → c.fleet = v.fleet) ∧
      (∀ p, r.program = some p → c.programClass = p.cls) ∧ (f = true → c.verdictIndex = none) ∧
      (∀ v, r.verdict = some v → c.maxGrade = v.maxGrade ∧ (f = false → c.verdictIndex = some v.index))) ∧
    t.records = s.records.map (fun x => if x.bay = r.bay ∧ x.index = r.index then { x with st := .certified, cert := some n } else x) ∧
    (r.order = none → t.lanes = s.lanes ∧ t.ports = s.ports) ∧
    (∀ u : State, r.order ≠ none →
      u = s.setLane r.bay { s.lane r.bay with queue := (s.lane r.bay).queue ++ [{ index := r.index, kind := .fill }] } →
      t.lanes = u.lanes ∧ t.ports = u.ports) ∧
    t.certs.backlog = decide (s.certs.highWater ≤ s.certs.log.length + 1) ∧
    (s.certs.hold = true → t.certs.hold = true ∧ t.certs.counter = min 255 (s.certs.counter + 1)) ∧
    (s.certs.hold = false →
      ((0 < s.certs.period ∧ s.certs.period ≤ min 255 (s.certs.counter + 1)) ∨ n = 4294967295) →
      t.certs.hold = true ∧ t.certs.counter = 0) ∧
    (s.certs.hold = false → ¬ (0 < s.certs.period ∧ s.certs.period ≤ min 255 (s.certs.counter + 1)) → n ≠ 4294967295 →
      t.certs.hold = false ∧ t.certs.counter = min 255 (s.certs.counter + 1)) ∧
    (∃ u v : NoticeUnit,
      u = s.notices.raise (bayScope r.bay) (.certIssued r.index n r.achieved) ∧
      v = (if t.certs.backlog = s.certs.backlog then u else u.raise 0 (.backlog t.certs.backlog (s.certs.log.length + 1))) ∧
      (s.certs.hold = true → t.notices = v) ∧
      (s.certs.hold = false → (0 < s.certs.period ∧ s.certs.period ≤ min 255 (s.certs.counter + 1)) →
        t.notices = v.raise 0 (.auditHold false n)) ∧
      (s.certs.hold = false → ¬ (0 < s.certs.period ∧ s.certs.period ≤ min 255 (s.certs.counter + 1)) → n = 4294967295 →
        t.notices = v.raise 0 (.auditHold true n)) ∧
      (s.certs.hold = false → ¬ (0 < s.certs.period ∧ s.certs.period ≤ min 255 (s.certs.counter + 1)) → n ≠ 4294967295 →
        t.notices = v)) ∧
    t.utils = s.utils ∧ t.store = s.store ∧ t.maps = s.maps ∧ t.scans = s.scans ∧ t.freeCount = s.freeCount ∧ CascadeFrame s t

/-- CERT_RETIRE removes the k oldest certificates, judges the backlog and outside audit hold drains the withheld list. AUDIT_RELEASE ends audit
hold, drains the list and has each lane judge its queue, in ascending order (log 8), after the drain (log 15). The drain issues from the head of the
list for as long as the unit can issue, each certificate with the referral flag kept in the list (log 22), and a lane whose queue was empty judges
it after that issue's items (log 15). -/
def Obligations.CertRetireAndAuditReleaseDrainTheList : Prop :=
  (∀ (tag k : Byte) (s : State), s.LinkFree .office →
    ((k.toNat = 0 ∨ 24 < k.toNat ∨ s.certs.log.length < k.toNat) →
      exec (.certRetire .office tag k) s = .next (s.answered .office 0x31 tag (.refuse .badValue))) ∧
    (∀ (c : Cert) (rest : List Cert) (t u : State), 1 ≤ k.toNat → k.toNat ≤ 24 → k.toNat ≤ s.certs.log.length → s.certs.log = c :: rest →
      t = (s.setCerts { s.certs with log := s.certs.log.drop k.toNat }).judgeBacklog →
      u = (if s.certs.hold = true then t else t.settle [.drain]) →
      exec (.certRetire .office tag k) s = .next (u.answered .office 0x31 tag
        (.ok (bytes4 c.number ++ [byte u.certs.log.length, byte (u.certs.log.length - (s.certs.log.length - k.toNat)),
          byte u.certs.withheld.length]))))) ∧
  (∀ (tag : Byte) (s : State), s.LinkFree .office →
    (s.certs.hold = false →
      exec (.auditRelease .office tag) s = .next (s.answered .office 0x32 tag (.ok [0, byte s.certs.withheld.length]))) ∧
    (s.certs.hold = true → s.certs.next = none →
      exec (.auditRelease .office tag) s = .next (s.answered .office 0x32 tag (.refuse .wrongState))) ∧
    (∀ t : State, s.certs.hold = true → s.certs.next ≠ none →
      t = (s.setCerts { s.certs with hold := false }).settle
        [.drain, .idle 0, .idle 1, .idle 2, .idle 3, .idle 4, .idle 5] →
      exec (.auditRelease .office tag) s = .next (t.answered .office 0x32 tag
        (.ok [byte (t.certs.log.length - s.certs.log.length), byte t.certs.withheld.length])))) ∧
  (∀ (w : Withheld) (rest : List Withheld) (n : Nat) (r : Comp) (s : State), s.certs.withheld = w :: rest → s.certs.hold = false →
    s.certs.log.length < 24 → s.certs.next = some n → s.record? w.bay w.index = some r →
    act .drain s = ((s.setCerts { s.certs with withheld := rest }).issueTo n r w.referral,
      (if (s.lane w.bay).queue = [] then [.idle w.bay] else []) ++ [.drain])) ∧
  (∀ s : State, (s.certs.withheld = [] ∨ s.certs.hold = true ∨ 24 ≤ s.certs.log.length ∨ s.certs.next = none) →
    act .drain s = (s, []))

/-! ## Status reads -/

/-- UTILITY_STATUS, BAY_STATUS, COMPARTMENT_STATUS and CERT_READ change nothing and answer the records of 11.5, each with its Limited condition,
every record's fields in their order, and the codes they carry. A certificate sets CERT_READ's Limited condition by a totals field at 65,535. -/
def Obligations.StatusReadsAnswerTheRecords : Prop :=
  (∀ (l : LinkId) (tag : Byte) (s : State), s.LinkFree l →
    exec (.utilityStatus l tag) s = .next (s.answered l 0x19 tag
      { result := .ok, fields := [UtilId.hotWater, .caustic, .acid, .steam, .dryer, .fillA, .fillB].flatMap s.utilBytes,
        limited := decide (∃ u : Fin 7, s.utils[u].counter = 4294967295), prior := false })) ∧
  (∀ (u : UtilId) (s : State), (s.utilBytes u).length = 10 + 6 * ((s.util u).grants.length + (s.util u).claims.length)) ∧
  (∀ (l : LinkId) (tag bay : Byte) (s : State), s.LinkFree l →
    ((bay.toNat = 0 ∨ 6 < bay.toNat) → exec (.bayStatus l tag bay) s = .next (s.answered l 0x38 tag (.refuse .badValue))) ∧
    (∀ b : Bay, bay.toNat = b.val + 1 →
      exec (.bayStatus l tag bay) s = .next (s.answered l 0x38 tag
        { result := .ok, fields := s.bayStatusBytes b, prior := false,
          limited := decide ((s.lane b).delivered = 65535 ∨ (s.lane b).noFlow = 255 ∨ (s.lane b).cold = 255 ∨ (s.lane b).timer = 255) }))) ∧
  (∀ (b : Bay) (s : State), (s.bayStatusBytes b).length = 25 + 2 * (s.lane b).queue.length) ∧
  (∀ (l : LinkId) (tag bay index : Byte) (s : State), s.LinkFree l →
    ((bay? bay = none ∨ index? index = none) →
      exec (.compartmentStatus l tag bay index) s = .next (s.answered l 0x39 tag (.refuse .badValue))) ∧
    (∀ b k, bay? bay = some b → index? index = some k → s.visit b = none →
      exec (.compartmentStatus l tag bay index) s = .next (s.answered l 0x39 tag (.refuse .wrongState))) ∧
    (∀ b k v, bay? bay = some b → index? index = some k → s.visit b = some v → v.count < k →
      exec (.compartmentStatus l tag bay index) s = .next (s.answered l 0x39 tag (.refuse .badValue))) ∧
    (∀ b k r, bay? bay = some b → index? index = some k → s.Names b k r →
      exec (.compartmentStatus l tag bay index) s = .next (s.answered l 0x39 tag
        { result := .ok, fields := r.bytes, prior := false,
          limited := decide (r.filled = 65535 ∨ r.water = 65535 ∨ r.chemical = 65535 ∨ r.steam = 65535 ∨ r.dryer = 65535) }))) ∧
  (∀ r : Comp, r.bytes.length = 36) ∧
  (∀ (l : LinkId) (tag count : Byte) (s : State), s.LinkFree l →
    ((count.toNat = 0 ∨ 4 < count.toNat) → exec (.certRead l tag count) s = .next (s.answered l 0x30 tag (.refuse .badValue))) ∧
    (1 ≤ count.toNat → count.toNat ≤ 4 →
      exec (.certRead l tag count) s = .next (s.answered l 0x30 tag
        { result := .ok, prior := false,
          fields := s.certs.summary (min count.toNat s.certs.log.length) ++ (s.certs.log.take count.toNat).flatMap Cert.bytes,
          limited := (s.certs.log.take count.toNat).any Cert.saturated || decide (s.certs.counter = 255) }))) ∧
  (∀ c : Cert, c.saturated = decide (c.water = 65535 ∨ c.chemical = 65535 ∨ c.steam = 65535 ∨ c.dryer = 65535)) ∧
  (∀ c : Cert, c.bytes.length = 27) ∧ (∀ (u : CertUnit) (n : Nat), (u.summary n).length = 15) ∧
  (flag true = 1 ∧ flag false = 0 ∧ orAbsent none = 0xFF ∧ ∀ n, orAbsent (some n) = byte n) ∧
  (∀ (u : UtilId) (s : State) (x : Util), x = s.util u → ∃ gs : List Claim, gs.Perm x.grants ∧ gs.Pairwise (fun c d => c.lane ≤ d.lane) ∧
    s.utilBytes u = [byte (utilCode u), byte x.capacity,
        byte ((if x.offline then 1 else 0) + (if x.fault then 2 else 0) + (if x.inService then 4 else 0)), orAbsent (x.cargo.map Fin.val)] ++
      bytes4 x.counter ++ [byte x.grants.length, byte x.claims.length] ++
      (gs.flatMap fun c => byte (c.lane.val + 1) :: byte (if c.urgent then 1 else 0) :: bytes4 c.arrival) ++
      (x.claims.flatMap fun c =>
        byte (c.lane.val + 1) :: byte ((if c.urgent then 1 else 0) + (if c.kept then 2 else 0)) :: bytes4 c.arrival)) ∧
  (∀ (b : Bay) (s : State) (m : Lane), m = s.lane b → s.bayStatusBytes b =
    (match s.visit b with
      | none => [0, 0, 0, 0, 0, 0]
      | some v => 1 :: bytes3 v.fleet ++ [flag v.urgent, byte v.count]) ++
    [byte m.st.code, orAbsent (m.ret.map LaneState.code), flag m.starveRelease, orAbsent m.current, orAbsent (m.service.map Service.code),
      byte ((if m.holds.host then 1 else 0) + (if m.holds.lockout then 2 else 0) + (if m.holds.stop then 4 else 0)), byte m.queue.length] ++
    (m.queue.flatMap fun e => [byte e.index, byte e.kind.code]) ++
    [orAbsent m.seated, byte m.index.val, byte m.fetched] ++ bytes2 m.delivered ++
    [byte m.noFlow, byte m.cold, byte m.timer, orAbsent m.temp, byte m.cap, flag m.inspected, byte (32 - s.records.length)]) ∧
  (∀ r : Comp, r.bytes =
    [byte (r.bay.val + 1), byte r.index, byte ((r.prior.map Fin.val).getD 0x10), byte r.st.code] ++
    (match r.program with
      | none => [0, 0, 0, 0, 0]
      | some { head := h, chain := .follow, cls := c } => [1, byte h.val, 0, 0, byte c]
      | some { head := h, chain := .bounded x, cls := c } => [1, byte h.val, 1, byte x.val, byte c]) ++
    [orAbsent (r.dirty.map Reason.code), byte r.achieved] ++
    (match r.verdict with
      | none => [0, 0, 0, 0, 0]
      | some v => [1, byte v.maxGrade, byte v.overCount, byte ((v.outcome.map Judgement.code).getD 0), byte v.index]) ++
    (match r.cert with
      | none => [0, 0, 0, 0, 0]
      | some n => 1 :: bytes4 n) ++
    (match r.order with
      | none => [0, 0, 0, 0]
      | some o => 1 :: byte o.cargo.val :: bytes2 o.target) ++
    bytes2 r.filled ++ [orAbsent (r.outcome.map FillOutcome.code)] ++ bytes2 r.water ++ bytes2 r.chemical ++ bytes2 r.steam ++
    bytes2 r.dryer) ∧
  (∀ c : Cert, c.bytes = bytes4 c.number ++ bytes3 c.fleet ++
    [byte (c.bay.val + 1), byte c.index, byte ((c.prior.map Fin.val).getD 0x10), byte c.programClass, byte c.achieved,
      orAbsent c.verdictIndex, byte c.maxGrade] ++
    bytes2 c.water ++ bytes2 c.chemical ++ bytes2 c.steam ++ bytes2 c.dryer ++ bytes4 c.issueTime ++ [flag c.referral]) ∧
  (∀ (u : CertUnit) (n : Nat), u.summary n = byte u.log.length :: bytes4 (u.next.getD 0) ++
    [byte u.withheld.length, byte ((if u.hold then 1 else 0) + (if u.backlog then 2 else 0) + (if u.next = none then 4 else 0)),
      byte u.period, byte u.counter, byte u.highWater] ++ bytes4 u.clock ++ [byte n]) ∧
  [LaneState.idle, .seating, .waitResource, .running, .draining, .scanning, .starved, .filling, .held, .suspended].map LaneState.code =
    [0, 1, 2, 3, 4, 5, 6, 7, 8, 9] ∧
  [CompState.admitted, .queued, .washing, .dirty, .referred, .awaitCert, .certified, .filling, .filled].map CompState.code =
    [1, 2, 3, 4, 5, 6, 7, 8, 9] ∧
  [Service.wash, .fill].map Service.code = [0, 1]

/-- MAP_READ answers the scan block and the window's zones ring by ring, each a grade or 0xFF; a bay, ring or sector out of range, or a window with
its ends crossed, is refused. It changes nothing. -/
def Obligations.MapReadAnswersTheZonesRingByRing : Prop :=
  ∀ (l : LinkId) (tag bay r0 r1 c0 c1 : Byte) (s : State), s.LinkFree l →
    ((bay.toNat = 0 ∨ 6 < bay.toNat ∨ 15 < r1.toNat ∨ 11 < c1.toNat ∨ r1.toNat < r0.toNat ∨ c1.toNat < c0.toNat) →
      exec (.mapRead l tag bay r0 r1 c0 c1) s = .next (s.answered l 0x3A tag (.refuse .badValue))) ∧
    (∀ b : Bay, bay.toNat = b.val + 1 → r0.toNat ≤ r1.toNat → r1.toNat ≤ 15 → c0.toNat ≤ c1.toNat → c1.toNat ≤ 11 →
      ∃ block : List Byte, block.length = 10 ∧ (s.scan b = none → block = List.replicate 10 0) ∧
        (∀ x, s.scan b = some x → block = [1, byte x.window.firstRing.val, byte x.window.lastRing.val, byte x.window.firstSector.val,
          byte x.window.lastSector.val, byte x.order.code, byte x.threshold, byte x.written, byte x.pointer.ring.val,
          byte x.pointer.sector.val]) ∧
        exec (.mapRead l tag bay r0 r1 c0 c1) s = .next (s.answered l 0x3A tag (.ok (block ++
          (List.range (r1.toNat + 1 - r0.toNat)).flatMap fun i => (List.range (c1.toNat + 1 - c0.toNat)).map fun j =>
            match (s.residue b)[(r0.toNat + i) * 12 + (c0.toNat + j)]? with
            | some (some g) => byte g.val
            | _ => 0xFF)))) ∧
    [ScanOrder.ringUp, .ringDown, .sectorUp, .sectorDown].map ScanOrder.code = [0, 1, 2, 3]

/-- PENDING_READ lists a scope's entries by order number, those of masked kinds while show-masked is on, and changes nothing; PENDING_CLEAR removes
the listed kinds that are pending and masked, and the order counter returns to 0 when that empties the last of the sets. -/
def Obligations.PendingSetsAreReadAndCleared : Prop :=
  (∀ (l : LinkId) (tag scope : Byte) (s : State), s.LinkFree l →
    (6 < scope.toNat → exec (.pendingRead l tag scope) s = .next (s.answered l 0x3B tag (.refuse .badValue))) ∧
    (∀ sc : Scope, scope.toNat = sc.val →
      ∃ xs : List Entry,
        xs.Perm ((s.notices.set sc).filter fun x => s.notices.showMasked || !s.notices.masked x.event.kind) ∧
        xs.Pairwise (fun x y => x.order ≤ y.order) ∧
        exec (.pendingRead l tag scope) s = .next (s.answered l 0x3B tag
          { result := .ok, prior := false, limited := xs.any fun x => decide (x.count = 255 ∨ x.order = 4294967295),
            fields := [flag s.notices.output, byte s.notices.urgent.length, byte s.notices.routine.length,
                byte ((s.notices.set sc).length - xs.length), byte xs.length] ++
              xs.flatMap fun x => [byte x.event.kind.code, byte x.count] ++ bytes4 x.order ++
                [flag (s.notices.masked x.event.kind)] ++ x.event.bytes }))) ∧
  (∀ (l : LinkId) (tag scope : Byte) (kinds : List Byte) (s : State), s.LinkFree l →
    ((6 < scope.toNat ∨ kinds.length = 0 ∨ 14 < kinds.length ∨ (∃ k ∈ kinds, eventKind? k = none) ∨
        (∃ k ∈ kinds, ∃ e, eventKind? k = some e ∧ (e.yard = true ↔ scope.toNat ≠ 0))) →
      exec (.pendingClear l tag scope kinds) s = .next (s.answered l 0x3C tag (.refuse .badValue))) ∧
    (∀ (sc : Scope) (ks : List EventKind), scope.toNat = sc.val → kinds.map eventKind? = ks.map some → 1 ≤ kinds.length →
      kinds.length ≤ 14 → (∀ e ∈ ks, e.yard = true ↔ sc = 0) →
      ∃ u : NoticeUnit,
        u.set sc = ((s.notices.set sc).filter fun x => !(decide (x.event.kind ∈ ks) && s.notices.masked x.event.kind)) ∧
        (∀ sc', sc' ≠ sc → u.set sc' = s.notices.set sc') ∧ u.urgent = s.notices.urgent ∧ u.routine = s.notices.routine ∧
        u.masks = s.notices.masks ∧ u.showMasked = s.notices.showMasked ∧ u.output = s.notices.output ∧
        u.counter = (if (u.set sc).length < (s.notices.set sc).length ∧ (∀ sc', u.set sc' = []) then 0 else s.notices.counter) ∧
        exec (.pendingClear l tag scope kinds) s = .next ((s.setNotices u).answered l 0x3C tag
          (.ok [byte ((s.notices.set sc).length - (u.set sc).length), byte (u.set sc).length]))))

/-- An event raised into a set is folded into the entry of its kind, or entered with the next order number; then its kind's queue is judged: the
oldest unmasked candidate moves in while output is on and there is room. Between entries of one order number the yard's is the older, then the
bays' in ascending number, then within a set the kinds in the order of their codes. An entry that leaves leaves its set alone changed, and the
order counter returns to 0 when no set holds an entry. The event of each kind, the urgent kinds, the yard kinds, and the set each event goes
into. -/
def Obligations.EventsAreFoldedOrEnteredAndLogged : Prop :=
  (∀ e : Event, e.kind = match e with
    | .stepDone .. => .stepDone
    | .programEnd .. => .programEnd
    | .verdict .. => .verdict
    | .certIssued .. => .certIssued
    | .fillDone .. => .fillDone
    | .fillRefused .. => .fillRefused
    | .fault .. => .fault
    | .referral .. => .referral
    | .overfill .. => .overfill
    | .utilityLost .. => .utilityLost
    | .utilityBack .. => .utilityBack
    | .auditHold .. => .auditHold
    | .backlog .. => .backlog
    | .modeChange .. => .modeChange) ∧
  (∀ k : EventKind,
    k.urgent = decide (k ∈ [EventKind.fault, .referral, .overfill, .utilityLost, .auditHold, .backlog, .modeChange]) ∧
    k.yard = decide (k ∈ [EventKind.utilityLost, .utilityBack, .auditHold, .backlog, .modeChange])) ∧
  (∀ (b : Bay) (e : Event) (s : State), (bayScope b).val = b.val + 1 ∧
    s.raiseBay b e = { s with notices := s.notices.raise (bayScope b) e } ∧ s.raiseYard e = { s with notices := s.notices.raise 0 e }) ∧
  (∀ (u : NoticeUnit) (q : List Notice), u.queue true = u.urgent ∧ u.queue false = u.routine ∧
    u.setQueue true q = { u with urgent := q } ∧ u.setQueue false q = { u with routine := q }) ∧
  (∀ (u : NoticeUnit) (sc : Scope) (k : EventKind), ∃ v : NoticeUnit, v = u.removeKind sc k ∧
    v.set sc = ((u.set sc).filter fun x => decide (x.event.kind ≠ k)) ∧ (∀ sc', sc' ≠ sc → v.set sc' = u.set sc') ∧
    ((∀ sc', v.set sc' = []) → v.counter = 0) ∧ ((∃ sc', v.set sc' ≠ []) → v.counter = u.counter) ∧
    v.urgent = u.urgent ∧ v.routine = u.routine ∧ v.masks = u.masks ∧ v.showMasked = u.showMasked ∧ v.output = u.output) ∧
  (∀ (u : NoticeUnit) (sc : Scope) (e : Event), u.raise sc e = (u.enter sc e).judge e.kind.urgent) ∧
  (∀ (u : NoticeUnit) (sc : Scope) (e : Event), (∀ x ∈ u.set sc, x.event.kind ≠ e.kind) →
    (u.enter sc e).set sc = u.set sc ++ [{ event := e, count := 1, order := u.counter }] ∧
    (u.enter sc e).counter = min 4294967295 (u.counter + 1)) ∧
  (∀ (u : NoticeUnit) (sc : Scope) (e : Event) (l r : List Entry) (x : Entry), u.set sc = l ++ x :: r → x.event.kind = e.kind →
    (∀ y ∈ l ++ r, y.event.kind ≠ e.kind) →
    (u.enter sc e).set sc = l ++ { event := e, count := min 255 (x.count + 1), order := x.order } :: r ∧
    (u.enter sc e).counter = u.counter) ∧
  (∀ (u : NoticeUnit) (sc sc' : Scope) (e : Event), sc' ≠ sc → (u.enter sc e).set sc' = u.set sc') ∧
  (∀ (u : NoticeUnit) (urgent : Bool),
    (u.output = false ∨ (if urgent then 8 else 32) ≤ (u.queue urgent).length ∨
      (∀ sc, ∀ x ∈ u.set sc, x.event.kind.urgent = urgent → u.masked x.event.kind = true)) → u.judge urgent = u) ∧
  (∀ (u : NoticeUnit) (urgent : Bool), u.output = true → (u.queue urgent).length < (if urgent then 8 else 32) →
    ∀ (sc : Scope) (x : Entry), x ∈ u.set sc → x.event.kind.urgent = urgent → u.masked x.event.kind = false →
      (∀ sc', ∀ y ∈ u.set sc', y.event.kind.urgent = urgent → u.masked y.event.kind = false → (sc', y) ≠ (sc, x) →
        x.order < y.order ∨ (x.order = y.order ∧ (sc < sc' ∨ (sc = sc' ∧ x.event.kind.code < y.event.kind.code)))) →
      u.judge urgent = (((u.setQueue urgent (u.queue urgent ++ [{ scope := sc, event := x.event, count := x.count }])).removeKind sc
        x.event.kind).judge urgent))

/-! ## Lanes -/

/-- ABORT is accepted while the bay's lane serves a wash, whatever its state, and refused otherwise. An abort lets the grant or claim go, removes
the pin and the scan, makes the record DIRTY with the reason, its prior class UNKNOWN where litres were delivered, and leaves the lane IDLE with
its holds, queue, seat and lance order, its port sending the orders that changed; then FAULT is raised and the lane judges its queue. A lane holds on the utility that has its grant or
claim. -/
def Obligations.AbortMakesTheRecordDirtyAndTheLaneIdle : Prop :=
  (∀ (l : LinkId) (tag bay : Byte) (b : Bay) (s : State), s.LinkFree l → s.mode ≠ .dormant → bay.toNat = b.val + 1 →
    (∀ k, (s.lane b).st ≠ .idle → (s.lane b).service = some .wash → (s.lane b).current = some k →
      exec (.abort l tag bay) s = .next ((s.settle [.abort b .aborted]).answered l 0x25 tag (.ok [byte k]))) ∧
    (((s.lane b).st = .idle ∨ (s.lane b).service ≠ some .wash) →
      exec (.abort l tag bay) s = .next (s.answered l 0x25 tag (.refuse .wrongState)))) ∧
  (∀ (b : Bay) (why : Reason) (s : State), act (.abort b why) s = ((s.release b).1, (s.release b).2 ++ [.aborted b why])) ∧
  (∀ (b : Bay) (s : State),
    (s.holding b = none ↔ ∀ u, ∀ c ∈ (s.util u).grants ++ (s.util u).claims, c.lane ≠ b) ∧
    (∀ u, s.holding b = some u → ∃ c ∈ (s.util u).grants ++ (s.util u).claims, c.lane = b)) ∧
  (∀ (b : Bay) (s : State), (s.holding b = none → s.release b = (s, [])) ∧
    (∀ u, s.holding b = some u → s.release b = (s.setUtil u ((s.util u).drop b), [.judge u]))) ∧
  (∀ (b : Bay) (why : Reason) (k : Nat) (r : Comp) (s : State), (s.lane b).current = some k → s.record? b k = some r →
    ∃ t : State, act (.aborted b why) s = (t.raiseBay b (.fault why k (s.lane b).index), [.idle b]) ∧
      t.lane b = { s.lane b with st := .idle, current := none, service := none, ret := none, starveRelease := false,
                                 orders := { lance := (s.lane b).orders.lance, supply := none, drain := true, fill := false,
                                             probe := false } } ∧
      t.port b = (s.setLane b (t.lane b)).port b ∧
      t.records = s.records.map (fun x => if x.bay = b ∧ x.index = k then
        { x with st := .dirty, dirty := some why, achieved := 0, prior := if (s.lane b).anyLitres then none else x.prior } else x) ∧
      t.store = { s.store with pins := s.store.pins.set b none } ∧ t.scan b = none ∧ t.maps = s.maps ∧ t.utils = s.utils ∧
      t.certs = s.certs ∧ t.notices = s.notices ∧ (∀ c, c ≠ b → t.lane c = s.lane c ∧ t.port c = s.port c ∧ t.scan c = s.scan c) ∧
      t.freeCount = s.freeCount ∧ CascadeFrame s t)

/-- HOLD and RESUME answer the hold causes as they stand afterwards. The first cause takes a working lane into HELD with its state to return to,
letting its grant or claim go; the last cause removed resumes it by that state; a cause already there, or already gone, changes nothing. A lane
whose starve release is set goes to the finished entry's next field without testing its end mark again (log 21), as the entry stands at the end
of the hold (log 30), and by the model's free value where the entry has been made BLANK (log 10). -/
def Obligations.HoldCausesStopALaneAndLetItGo : Prop :=
  (∀ (l : LinkId) (tag bay : Byte) (b : Bay) (s : State), s.LinkFree l → s.mode ≠ .dormant → bay.toNat = b.val + 1 →
    (∃ t, t = s.settle [.hold b .host] ∧
      exec (.hold l tag bay) s = .next (t.answered l 0x26 tag (.ok [byte (t.lane b).holds.code]))) ∧
    (∃ t, t = s.settle [.unhold b .host] ∧
      exec (.resume l tag bay) s = .next (t.answered l 0x27 tag (.ok [byte (t.lane b).holds.code])))) ∧
  (∀ (h : Holds) (v : Bool), h.has .host = h.host ∧ h.has .lockout = h.lockout ∧ h.has .stop = h.stop ∧
    h.put .host v = { h with host := v } ∧ h.put .lockout v = { h with lockout := v } ∧ h.put .stop v = { h with stop := v } ∧
    h.code = (if h.host then 1 else 0) + (if h.lockout then 2 else 0) + (if h.stop then 4 else 0) ∧
    Holds.none = { host := false, lockout := false, stop := false }) ∧
  (∀ (b : Bay) (c : Cause) (s : State),
    ((s.lane b).holds.has c = true → act (.hold b c) s = (s, [])) ∧
    ((s.lane b).holds.has c = false → ((s.lane b).st = .idle ∨ (s.lane b).holds ≠ Holds.none) →
      act (.hold b c) s = (s.setLane b { s.lane b with holds := (s.lane b).holds.put c true }, [])) ∧
    ((s.lane b).st ≠ .idle → (s.lane b).holds = Holds.none →
      act (.hold b c) s = (s.setLane b
        { s.lane b with holds := (s.lane b).holds.put c true, ret := some (s.lane b).st, st := .held }).release b) ∧
    ((s.lane b).holds.has c = false → act (.unhold b c) s = (s, [])) ∧
    ((s.lane b).holds.has c = true → (s.lane b).holds.put c false ≠ Holds.none →
      act (.unhold b c) s = (s.setLane b { s.lane b with holds := (s.lane b).holds.put c false }, [])) ∧
    (∀ m : Lane, (s.lane b).holds.has c = true → (s.lane b).holds.put c false = Holds.none →
      m = { s.lane b with holds := Holds.none } →
      (m.st = .idle → act (.unhold b c) s = (s.setLane b m, [.idle b])) ∧
      (m.st = .held →
        (∀ u, (m.ret = some .running ∨ m.ret = some .waitResource ∨ m.ret = some .suspended) → m.service = some .wash →
          (s.entry m.index).utility? = some u →
          act (.unhold b c) s = (s.setLane b { m with st := .waitResource, ret := none }, [.claim b u.util])) ∧
        (m.ret = some .running → m.service = some .wash → (s.entry m.index).utility? = none →
          (m.current ≠ none → m.seated = m.current →
            act (.unhold b c) s = (s.setLane b { m with st := .running, ret := none }, [])) ∧
          ((m.current = none ∨ m.seated ≠ m.current) → act (.unhold b c) s = (s.setLane b m, [.abort b .lanceLost]))) ∧
        (m.ret = some .seating → m.seated ≠ m.current →
          act (.unhold b c) s = (s.setLane b { m with st := .seating, ret := none, timer := 0 }, [])) ∧
        (m.ret = some .seating → m.seated = m.current →
          act (.unhold b c) s = (s.setLane b { m with st := .seating, ret := none, timer := 0 },
            [if m.service = some .fill then .fillWait b else .fetch b])) ∧
        (∀ st : LaneState, (st = .draining ∨ st = .scanning) → m.ret = some st →
          (m.current ≠ none → m.seated = m.current →
            act (.unhold b c) s = (s.setLane b { m with st := st, ret := none, timer := 0 }, [])) ∧
          ((m.current = none ∨ m.seated ≠ m.current) →
            act (.unhold b c) s = (s.setLane b m, [.abort b .lanceLost]))) ∧
        (m.ret = some .starved → m.starveRelease = false →
          act (.unhold b c) s = (s.setLane b { m with st := .starved, ret := none, timer := 0 }, [])) ∧
        (∀ n, m.ret = some .starved → m.starveRelease = true → (s.entry m.index).next? = some n →
          act (.unhold b c) s =
            ({ s with lanes := s.lanes.set b { m with ret := none, starveRelease := false, index := n } }, [.fetch b])) ∧
        (m.ret = some .starved → m.starveRelease = true → (s.entry m.index).next? = none →
          act (.unhold b c) s =
            ({ s with freeCount := s.freeCount + 1,
                      lanes := s.lanes.set b { m with ret := none, starveRelease := false, index := Config.freeNext s.freeCount } },
             [.fetch b])) ∧
        ((m.ret = some .filling ∨ m.ret = some .waitResource ∨ m.ret = some .suspended) → m.service = some .fill →
          act (.unhold b c) s = (s.setLane b { m with ret := none }, [.fillWait b])))))

/-- What a bay report counts, by the lane state: last temperature in every state; the stage timer, the runs, delivered, the record's totals and
filled litres where the state counts them, each stopping at its maximum. -/
def Obligations.ReportsCountByTheLaneState : Prop :=
  ∀ (b : Bay) (r : Report) (s : State) (m : Lane), m = { s.lane b with temp := some r.temp } →
    ((m.st = .idle ∨ m.st = .waitResource ∨ m.st = .held ∨ m.st = .suspended) → s.countReport b r = s.setLane b m) ∧
    ((m.st = .seating ∨ m.st = .draining ∨ m.st = .starved ∨ m.st = .scanning) →
      s.countReport b r = s.setLane b { m with timer := min 255 (m.timer + 1) }) ∧
    (∀ k, m.st = .filling → m.current = some k →
      s.countReport b r = (s.modRecord b k fun x => { x with filled := min 65535 (x.filled + r.fill) }).setLane b
        { m with noFlow := if r.fill = 0 then min 255 (m.noFlow + 1) else 0 }) ∧
    (∀ k u amount minTemp stall drain endMark next, m.st = .running → m.current = some k →
      s.entry m.index = .flush u amount minTemp stall drain endMark next →
      ((∀ t, minTemp = some t → t ≤ r.temp) →
        (u = .hotWater → s.countReport b r =
          (s.modRecord b k fun x => { x with water := min 65535 (x.water + r.flow) }).setLane b
            { m with noFlow := if r.flow = 0 then min 255 (m.noFlow + 1) else 0, cold := 0,
                     delivered := min 65535 (m.delivered + r.flow), anyLitres := m.anyLitres || decide (0 < r.flow) }) ∧
        ((u = .caustic ∨ u = .acid) → s.countReport b r =
          (s.modRecord b k fun x => { x with chemical := min 65535 (x.chemical + r.flow) }).setLane b
            { m with noFlow := if r.flow = 0 then min 255 (m.noFlow + 1) else 0, cold := 0,
                     delivered := min 65535 (m.delivered + r.flow), anyLitres := m.anyLitres || decide (0 < r.flow) })) ∧
      (∀ t, minTemp = some t → r.temp < t →
        s.countReport b r = s.setLane b
          { m with noFlow := if r.flow = 0 then min 255 (m.noFlow + 1) else 0, cold := min 255 (m.cold + 1) })) ∧
    (∀ k u amount minTemp endMark next, m.st = .running → m.current = some k →
      s.entry m.index = .blow u amount minTemp endMark next →
      ((∀ t, minTemp = some t → t ≤ r.temp) →
        (u = .steam → s.countReport b r =
          (s.modRecord b k fun x => { x with steam := min 65535 (x.steam + 1) }).setLane b
            { m with cold := 0, delivered := min 65535 (m.delivered + 1) }) ∧
        (u = .dryer → s.countReport b r =
          (s.modRecord b k fun x => { x with dryer := min 65535 (x.dryer + 1) }).setLane b
            { m with cold := 0, delivered := min 65535 (m.delivered + 1) })) ∧
      (∀ t, minTemp = some t → r.temp < t → s.countReport b r = s.setLane b { m with cold := min 255 (m.cold + 1) })) ∧
    (∀ amount drain endMark next, m.st = .running → s.entry m.index = .soak amount drain endMark next →
      s.countReport b r = s.setLane b { m with delivered := min 65535 (m.delivered + 1) })

/-- A bay report is counted and then judged by the limits of the lane's state, in their order; a row named for a judgement is the report that
brings it about, and without effect where it does not (the model's reading of the nine rows, log 4). A temperature above 99 has no effect. A seat
timeout's FAULT carries the lane's current index as it stands, for a WASH the program's head (log 31). -/
def Obligations.ReportsAreJudgedByTheLimits : Prop :=
  (∀ (b : Bay) (flow fill temp : Byte) (s t : State), s.pins.resetHeld = false → temp.toNat ≤ 99 →
    t = s.countReport b { flow := flow.toNat, fill := fill.toNat, temp := temp.toNat } →
    (t.reportEnd b = .goesOn → exec (.bayReport b flow fill temp) s = .next t.choose) ∧
    (∀ e c, reportRowOf e b flow fill temp = some c →
      (t.reportEnd b = e → exec c s = .next (t.endReport b e).choose ∧
        exec (.bayReport b flow fill temp) s = .next (t.endReport b e).choose) ∧
      (t.reportEnd b ≠ e → exec c s = .next s.choose))) ∧
  (∀ (b : Bay) (flow fill temp : Byte) (s : State), s.pins.resetHeld = false → 99 < temp.toNat →
    exec (.bayReport b flow fill temp) s = .next s.choose ∧
    (∀ e c, reportRowOf e b flow fill temp = some c → exec c s = .next s.choose)) ∧
  (∀ (b : Bay) (t : State) (m : Lane), m = t.lane b →
    (m.st = .seating → t.timing.seat ≤ m.timer → t.reportEnd b = .seatTimeout) ∧
    (m.st = .draining → t.timing.drain ≤ m.timer → t.reportEnd b = .drainStuck) ∧
    (m.st = .starved → t.timing.starve ≤ m.timer → t.reportEnd b = .underrun) ∧
    (∀ w o h stall e n, m.st = .scanning → t.entry m.index = .inspect w o h stall e n → stall ≤ m.timer →
      t.reportEnd b = .scanStall) ∧
    (∀ w o h stall e n, m.st = .scanning → t.entry m.index = .inspect w o h stall e n → m.timer < stall → t.reportEnd b = .goesOn) ∧
    (∀ u amount minTemp stall d e n, m.st = .running → t.entry m.index = .flush u amount minTemp stall d e n →
      (amount ≤ m.delivered → t.reportEnd b = .stepEnd) ∧
      (∀ x, m.delivered < amount → stall = some x → x ≤ m.noFlow → t.reportEnd b = .noFlow) ∧
      (m.delivered < amount → (∀ x, stall = some x → m.noFlow < x) → t.timing.cold ≤ m.cold → t.reportEnd b = .coldSupply) ∧
      (m.delivered < amount → (∀ x, stall = some x → m.noFlow < x) → m.cold < t.timing.cold → t.reportEnd b = .goesOn)) ∧
    (∀ u amount minTemp e n, m.st = .running → t.entry m.index = .blow u amount minTemp e n →
      (amount ≤ m.delivered → t.reportEnd b = .stepEnd) ∧
      (m.delivered < amount → t.timing.cold ≤ m.cold → t.reportEnd b = .coldSupply) ∧
      (m.delivered < amount → m.cold < t.timing.cold → t.reportEnd b = .goesOn)) ∧
    (∀ amount d e n, m.st = .running → t.entry m.index = .soak amount d e n →
      (amount ≤ m.delivered → t.reportEnd b = .stepEnd) ∧ (m.delivered < amount → t.reportEnd b = .goesOn)) ∧
    (∀ k r o, m.st = .filling → m.current = some k → t.record? b k = some r → r.order = some o →
      (o.target ≤ r.filled → t.reportEnd b = .fillComplete) ∧
      (r.filled < o.target → t.timing.fillStall ≤ m.noFlow → t.reportEnd b = .fillStall) ∧
      (r.filled < o.target → m.noFlow < t.timing.fillStall → t.reportEnd b = .goesOn)) ∧
    ((m.st = .idle ∨ m.st = .waitResource ∨ m.st = .held ∨ m.st = .suspended ∨ (m.st = .seating ∧ m.timer < t.timing.seat) ∨
        (m.st = .draining ∧ m.timer < t.timing.drain) ∨ (m.st = .starved ∧ m.timer < t.timing.starve)) →
      t.reportEnd b = .goesOn) ∧
    (∀ k r, m.current = some k → t.record? b k = some r →
      t.endReport b .seatTimeout = ((((t.modRecord b k fun x =>
        if m.service = some .fill then { x with st := .certified, order := none }
        else { x with st := if x.dirty.isSome then .dirty else .admitted, program := none }).raiseBay b
          (.fault .seatTimeout k m.index)).setLane b
        { m with st := .idle, current := none, service := none, ret := none, starveRelease := false }).settle [.idle b])) ∧
    t.endReport b .noFlow = t.settle [.abort b .noFlow] ∧ t.endReport b .coldSupply = t.settle [.abort b .coldSupply] ∧
    t.endReport b .drainStuck = t.settle [.abort b .drainStuck] ∧ t.endReport b .underrun = t.settle [.abort b .underrun] ∧
    t.endReport b .scanStall = t.settle [.abort b .scanStall] ∧ t.endReport b .stepEnd = t.settle [.stepEnd b] ∧
    t.endReport b .fillStall = t.settle [.endFill b .stall] ∧ t.endReport b .fillComplete = t.settle [.endFill b .complete])

/-- SEATED and LIFTED set the seat in every lane state; they end the work of a lane that is working elsewhere or nowhere, and SEATED at the current
compartment ends seating. DRAIN_CLEAR ends a drain and HIGH_LEVEL floods a flush or ends a fill; in every other state they do nothing. -/
def Obligations.PlantSignalsActByTheLaneState : Prop :=
  ∀ (b : Bay) (s : State) (m : Lane), s.pins.resetHeld = false → m = s.lane b →
    (∀ (x : Byte) (t : State), 1 ≤ x.toNat → x.toNat ≤ 8 → t = s.setLane b { m with seated := some x.toNat } →
      (m.st = .seating → m.current = some x.toNat → m.service = some .wash →
        exec (.seated b x) s = .next (t.settle [.fetch b]).choose) ∧
      (m.st = .seating → m.current = some x.toNat → m.service = some .fill →
        exec (.seated b x) s = .next (t.settle [.fillWait b]).choose) ∧
      ((m.st = .running ∨ m.st = .draining ∨ m.st = .scanning) → m.current ≠ some x.toNat →
        exec (.seated b x) s = .next (t.settle [.abort b .lanceLost]).choose) ∧
      (m.st = .filling → m.current ≠ some x.toNat → exec (.seated b x) s = .next (t.settle [.endFill b .lanceLost]).choose) ∧
      ((m.st = .idle ∨ m.st = .waitResource ∨ m.st = .starved ∨ m.st = .held ∨ m.st = .suspended ∨
          (m.st = .seating ∧ m.current ≠ some x.toNat) ∨ (m.st ≠ .seating ∧ m.current = some x.toNat)) →
        exec (.seated b x) s = .next t.choose)) ∧
    (∀ x : Byte, (x.toNat = 0 ∨ 8 < x.toNat) → exec (.seated b x) s = .next s.choose) ∧
    (∀ t : State, t = s.setLane b { m with seated := none } →
      ((m.st = .running ∨ m.st = .draining ∨ m.st = .scanning) →
        exec (.lifted b) s = .next (t.settle [.abort b .lanceLost]).choose) ∧
      (m.st = .filling → exec (.lifted b) s = .next (t.settle [.endFill b .lanceLost]).choose) ∧
      ((m.st = .idle ∨ m.st = .seating ∨ m.st = .waitResource ∨ m.st = .starved ∨ m.st = .held ∨ m.st = .suspended) →
        exec (.lifted b) s = .next t.choose)) ∧
    (m.st = .draining → exec (.drainClear b) s = .next (s.settle [.proceed b]).choose) ∧
    (m.st ≠ .draining → exec (.drainClear b) s = .next s.choose) ∧
    (∀ u a t l d e n, m.st = .running → s.entry m.index = .flush u a t l d e n →
      exec (.highLevel b) s = .next (s.settle [.abort b .flooded]).choose) ∧
    (m.st = .filling → exec (.highLevel b) s = .next (s.settle [.endFill b .highLevel]).choose) ∧
    (m.st ≠ .filling → (m.st = .running → (s.entry m.index).kind ≠ .flush) → exec (.highLevel b) s = .next s.choose)

/-- PROBE outside SCANNING is ignored, and a PROBE with a grade above 7 has no effect in any lane state. In SCANNING the grade is written at the pointer and the stage timer set to 0; before the last zone the
pointer goes on; at the last zone the verdict is given from the window's grades, and the lane acts on its outcome. -/
def Obligations.ReadingsAreWrittenAndTheLastGivesTheVerdict : Prop :=
  (∀ (b : Bay) (x : Byte) (s : State), s.pins.resetHeld = false → 7 < x.toNat → exec (.probe b x) s = .next s.choose) ∧
  (∀ (b : Bay) (x : Byte) (g : Grade) (s : State), s.pins.resetHeld = false → x.toNat = g.val →
    ((s.lane b).st ≠ .scanning → exec (.probe b x) s = .next s.choose) ∧
    (∀ (y : Scan) (t : State), (s.lane b).st = .scanning → s.scan b = some y →
      t = (s.setResidue b ((s.residue b).set (zoneIx y.pointer) (some g))).setLane b { s.lane b with timer := 0 } →
      (∀ z, (scanZones y.window y.order)[y.written + 1]? = some z →
        exec (.probe b x) s = .next (t.setScan b (some { y with pointer := z, written := y.written + 1 })).choose) ∧
      (∀ (k : Nat) (grades : List Grade) (m c i : Nat) (u : State), (scanZones y.window y.order)[y.written + 1]? = none →
        (s.lane b).current = some k →
        grades = (scanZones y.window y.order).filterMap (fun z => (t.residue b)[zoneIx z]) →
        m = grades.foldr (fun g n => max g.val n) 0 → c = grades.countP (fun g => decide (y.threshold < g.val)) →
        i = m * 8 + min c 7 →
        u = ((((t.modRecord b k fun r =>
            { r with verdict := some { maxGrade := m, overCount := c, outcome := some (s.verdictAt i), index := i } }).raiseBay b
          (.verdict k (s.lane b).index m c i (s.verdictAt i))).setScan b none).setPin b none) →
        (∀ cap, s.verdictAt i = .pass cap →
          exec (.probe b x) s = .next ((u.setLane b { u.lane b with cap := min (s.lane b).cap cap, inspected := true }).settle
            [.proceed b]).choose) ∧
        (s.verdictAt i = .rewash →
          exec (.probe b x) s = .next ((u.modRecord b k fun r => { r with st := .dirty, dirty := some .verdict, achieved := 0 }).settle
            [.toIdle b]).choose) ∧
        (s.verdictAt i = .refer →
          exec (.probe b x) s = .next (((u.modRecord b k fun r => { r with st := .referred, achieved := 0 }).raiseBay b
            (.referral k)).settle [.toIdle b]).choose))))

/-- The zones of a window in each scan order: every zone of the window exactly once, the inner sweep upward, the outer sweep as named. The map
keeps a zone at its ring's twelve places, by sector, the places MAP_READ reads. -/
def Obligations.ScanOrdersListEachZoneOnceInOrder : Prop :=
  (∀ (w : Window) (o : ScanOrder), (scanZones w o).Nodup ∧
    (∀ z, z ∈ scanZones w o ↔ w.firstRing ≤ z.ring ∧ z.ring ≤ w.lastRing ∧ w.firstSector ≤ z.sector ∧ z.sector ≤ w.lastSector) ∧
    (w.firstRing ≤ w.lastRing → w.firstSector ≤ w.lastSector → (scanZones w o)[0]? = some (firstZone w o) ∧
      (scanZones w o).length = (w.lastRing.val - w.firstRing.val + 1) * (w.lastSector.val - w.firstSector.val + 1)) ∧
    (scanZones w o).Pairwise (fun x y => match o with
      | .ringUp => x.ring < y.ring ∨ (x.ring = y.ring ∧ x.sector < y.sector)
      | .ringDown => y.ring < x.ring ∨ (x.ring = y.ring ∧ x.sector < y.sector)
      | .sectorUp => x.sector < y.sector ∨ (x.sector = y.sector ∧ x.ring < y.ring)
      | .sectorDown => y.sector < x.sector ∨ (x.sector = y.sector ∧ x.ring < y.ring))) ∧
  (∀ z : Zone, (zoneIx z).val = z.ring.val * 12 + z.sector.val) ∧
  scanZones { firstRing := 3, lastRing := 4, firstSector := 5, lastSector := 7 } .sectorDown =
    [⟨3, 7⟩, ⟨4, 7⟩, ⟨3, 6⟩, ⟨4, 6⟩, ⟨3, 5⟩, ⟨4, 5⟩]

/-- A lane takes its head entry while it is IDLE in RUN with no hold cause, a WASH entry only outside audit hold; otherwise the row does nothing
(the model's reading of the rows TAKE_WASH_ENTRY and TAKE_FILL_ENTRY, log 5). What each take sets, and when the fill-start check refuses. -/
def Obligations.LanesTakeTheirHeadEntry : Prop :=
  ∀ (b : Bay) (s : State) (m : Lane), s.pins.resetHeld = false → m = s.lane b →
    ((m.st ≠ .idle ∨ s.mode ≠ .run ∨ m.holds ≠ Holds.none ∨ s.certs.hold = true ∨ m.queue.head?.map QEntry.kind ≠ some .wash) →
      exec (.takeWashEntry b) s = .next s.choose) ∧
    ((m.st ≠ .idle ∨ s.mode ≠ .run ∨ m.holds ≠ Holds.none ∨ m.queue.head?.map QEntry.kind ≠ some .fill) →
      exec (.takeFillEntry b) s = .next s.choose) ∧
    (∀ (k : Nat) (rest : List QEntry) (r : Comp) (t : State), m.st = .idle → s.mode = .run → m.holds = Holds.none →
      s.record? b k = some r →
      (∀ (p : Program) (n : Lane), s.certs.hold = false → m.queue = { index := k, kind := .wash } :: rest → r.program = some p →
        t = (s.modRecord b k fun x => { x with st := .washing, verdict := none, water := 0, chemical := 0, steam := 0,
                                               dryer := 0 }).setResidue b (Vector.replicate 192 none) →
        n = { m with queue := rest, current := some k, service := some .wash, index := p.head, fetched := 0, delivered := 0,
                     noFlow := 0, cold := 0, cap := 7, inspected := false, anyLitres := false } →
        (m.seated = some k → exec (.takeWashEntry b) s = .next ((t.setLane b n).settle [.fetch b]).choose) ∧
        (m.seated ≠ some k → exec (.takeWashEntry b) s = .next (t.setLane b { n with st := .seating, timer := 0 }).choose)) ∧
      (∀ o : FillOrder, m.queue = { index := k, kind := .fill } :: rest → r.order = some o →
        (∀ cause : FillCause,
          ((cause = .noLine ∧ (s.util .fillA).cargo ≠ some o.cargo ∧ (s.util .fillB).cargo ≠ some o.cargo) ∨
            (((s.util .fillA).cargo = some o.cargo ∨ (s.util .fillB).cargo = some o.cargo) ∧
              ((cause = .forbidden ∧ s.carryEntry r.prior o.cargo = .forbidden) ∨
                (cause = .classShort ∧ ∃ c, s.carryEntry r.prior o.cargo = .required c ∧ r.achieved < c)))) →
          exec (.takeFillEntry b) s = .next ((((s.modRecord b k fun x => { x with order := none }).setLane b
            { m with queue := rest }).raiseBay b (.fillRefused k o.cargo cause)).settle [.idle b]).choose) ∧
        (∀ c, ((s.util .fillA).cargo = some o.cargo ∨ (s.util .fillB).cargo = some o.cargo) →
          s.carryEntry r.prior o.cargo = .required c → c ≤ r.achieved →
          t = (s.modRecord b k fun x => { x with st := .filling, filled := 0 }) →
          (m.seated = some k → exec (.takeFillEntry b) s = .next ((t.setLane b
            { m with queue := rest, current := some k, service := some .fill, noFlow := 0 }).settle [.fillWait b]).choose) ∧
          (m.seated ≠ some k → exec (.takeFillEntry b) s = .next (t.setLane b
            { m with queue := rest, current := some k, service := some .fill, noFlow := 0, st := .seating,
                     timer := 0 }).choose))))

/-- A fetch judges the step limit first, reads nothing past it; else it counts, pins the entry, removes the dirty reason at a program's first
fetch, and acts by the descriptor. A step's end lets the utility go, then takes the pin off and raises STEP_DONE, and drains where the step says
so. A proceed looks at the end mark, the bounded last index and the next field, in that order, the free value for the next field of an entry made
BLANK since (log 10); a program's end hands an inspected compartment on with the lesser class, and refers one that was not. Between two lane
states the orders stay those of the state left: a step that is not begun orders nothing. What each kind of descriptor carries is said first. -/
def Obligations.StepsAreFetchedEndedAndFollowed : Prop :=
  (∀ (d : Descriptor), (d.kind, d.utility?, d.drainAfter, d.endMark, d.next?) = match d with
    | .blank => (.blank, none, false, false, none)
    | .flush u _ _ _ dr e n => (.flush, some u, dr, e, some n)
    | .blow u _ _ e n => (.blow, some u, false, e, some n)
    | .soak _ dr e n => (.soak, none, dr, e, some n)
    | .inspect _ _ _ _ e n => (.inspect, none, false, e, some n)) ∧
  [WashUtil.hotWater, .caustic, .acid, .steam, .dryer].map WashUtil.util = [UtilId.hotWater, .caustic, .acid, .steam, .dryer] ∧
  (∀ (b : Bay) (s : State), 64 ≤ (s.lane b).fetched → act (.fetch b) s = (s, [.abort b .stepLimit])) ∧
  (∀ (b : Bay) (k : Nat) (s p : State) (m n : Lane), m = s.lane b → m.fetched < 64 → m.current = some k →
    p = (if m.fetched = 0 then (s.setPin b (some m.index)).modRecord b k (fun r => { r with dirty := none })
      else s.setPin b (some m.index)) →
    n = { m with fetched := m.fetched + 1, delivered := 0, noFlow := 0, cold := 0 } →
    ((s.entry m.index = .blank ∨
        (∃ u a t l d e x, s.entry m.index = .flush u a t l d e x ∧ (u = .steam ∨ u = .dryer)) ∨
        (∃ u a t e x, s.entry m.index = .blow u a t e x ∧ (u = .hotWater ∨ u = .caustic ∨ u = .acid)) ∨
        (∃ w o h l e x, s.entry m.index = .inspect w o h l e x ∧ (w.lastRing < w.firstRing ∨ w.lastSector < w.firstSector))) →
      act (.fetch b) s = ({ p with lanes := p.lanes.set b { m with fetched := m.fetched + 1 } }, [.abort b .badStep])) ∧
    (∀ u a t l d e x, s.entry m.index = .flush u a t l d e x → (u = .hotWater ∨ u = .caustic ∨ u = .acid) →
      act (.fetch b) s = (p.setLane b { n with st := .waitResource }, [.claim b u.util])) ∧
    (∀ u a t e x, s.entry m.index = .blow u a t e x → (u = .steam ∨ u = .dryer) →
      act (.fetch b) s = (p.setLane b { n with st := .waitResource }, [.claim b u.util])) ∧
    (∀ a d e x, s.entry m.index = .soak a d e x →
      (m.seated = some k → act (.fetch b) s = (p.setLane b { n with st := .running }, [])) ∧
      (m.seated ≠ some k → act (.fetch b) s = ({ p with lanes := p.lanes.set b n }, [.abort b .lanceLost]))) ∧
    (∀ w o h l e x, s.entry m.index = .inspect w o h l e x → w.firstRing ≤ w.lastRing → w.firstSector ≤ w.lastSector →
      (m.seated = some k → act (.fetch b) s =
        ((p.setScan b (some { pointer := firstZone w o, written := 0, window := w, order := o, threshold := h })).setLane b
          { n with st := .scanning, timer := 0 }, [])) ∧
      (m.seated ≠ some k → act (.fetch b) s = ({ p with lanes := p.lanes.set b n }, [.abort b .lanceLost])))) ∧
  (∀ (b : Bay) (s : State), act (.stepEnd b) s = ((s.release b).1, (s.release b).2 ++ [.stepEnded b])) ∧
  (∀ (b : Bay) (k : Nat) (s t : State) (m : Lane), m = s.lane b → m.current = some k →
    t = (s.setPin b none).raiseBay b (.stepDone k m.index (s.entry m.index).kind m.delivered) →
    ((s.entry m.index).drainAfter = false → act (.stepEnded b) s = (t, [.proceed b])) ∧
    ((s.entry m.index).drainAfter = true → m.seated = some k →
      act (.stepEnded b) s = (t.setLane b { m with st := .draining, timer := 0 }, [])) ∧
    ((s.entry m.index).drainAfter = true → m.seated ≠ some k → act (.stepEnded b) s = (t, [.abort b .lanceLost]))) ∧
  (∀ (b : Bay) (k : Nat) (r : Comp) (p : Program) (s : State) (m : Lane), m = s.lane b → m.current = some k →
    s.record? b k = some r → r.program = some p →
    ((s.entry m.index).endMark = true → act (.proceed b) s = (s, [.programEnd b])) ∧
    ((s.entry m.index).endMark = false → p.chain = .bounded m.index →
      act (.proceed b) s = (s.setLane b { m with st := .starved, timer := 0 }, [])) ∧
    (∀ x, (s.entry m.index).endMark = false → p.chain ≠ .bounded m.index → (s.entry m.index).next? = some x →
      act (.proceed b) s = ({ s with lanes := s.lanes.set b { m with index := x } }, [.fetch b])) ∧
    ((s.entry m.index).endMark = false → p.chain ≠ .bounded m.index → (s.entry m.index).next? = none →
      act (.proceed b) s =
        ({ s with freeCount := s.freeCount + 1, lanes := s.lanes.set b { m with index := Config.freeNext s.freeCount } }, [.fetch b])) ∧
    (m.inspected = true → act (.programEnd b) s =
      ((s.modRecord b k fun x => { x with achieved := min p.cls m.cap }).raiseBay b (.programEnd k (min p.cls m.cap)),
       [.certify b k false, .toIdle b])) ∧
    (m.inspected = false → act (.programEnd b) s =
      ((s.modRecord b k fun x => { x with
          st := .referred, achieved := 0,
          verdict := some { maxGrade := 0, overCount := 0, outcome := none, index := 0 } }).raiseBay b (.referral k), [.toIdle b])) ∧
    act (.toIdle b) s = (s.setLane b { m with st := .idle, current := none, service := none, ret := none, starveRelease := false },
      [.idle b]))

/-! ## Utilities -/

/-- The arbiter's judgement: the head claim is granted while the utility is in service with room, before anything else follows; otherwise nothing
happens. A claim is placed behind every claim it does not sort ahead of, so of equal priority and number behind the one placed earlier, and the
queue keeps its order, URGENT first and then by arrival number. A grant made at a return is counted for UTILITY_BACK in the utility's record
(log 9). The row UTILITY_GRANT is such a judgement (the model's reading, log 5). -/
def Obligations.TheArbiterGrantsTheHeadClaim : Prop :=
  (∀ (u : UtilId) (s : State), s.pins.resetHeld = false →
    (((s.util u).claims = [] ∨ (s.util u).offline = true ∨ (s.util u).fault = true ∨
        (s.util u).capacity ≤ (s.util u).grants.length) → exec (.utilityGrant u) s = .next s.choose) ∧
    (∀ c rest, (s.util u).claims = c :: rest → (s.util u).offline = false → (s.util u).fault = false →
      (s.util u).grants.length < (s.util u).capacity →
      exec (.utilityGrant u) s = .next ((s.setUtil u
        { s.util u with claims := rest, grants := (s.util u).grants ++ [{ c with kept := false }],
                        returning := (s.util u).returning.map fun n => min 6 (n + 1) }).settle
          [.granted c.lane, .judge u]).choose)) ∧
  (∀ (b : Bay) (s : State) (m : Lane), m = s.lane b →
    (m.current ≠ none → m.seated = m.current → m.service = some .wash →
      act (.granted b) s = (s.setLane b { m with st := .running }, [])) ∧
    (m.current ≠ none → m.seated = m.current → m.service = some .fill →
      act (.granted b) s = (s.setLane b { m with st := .filling }, [])) ∧
    ((m.current = none ∨ m.seated ≠ m.current) → m.service = some .wash → act (.granted b) s = (s, [.abort b .lanceLost])) ∧
    ((m.current = none ∨ m.seated ≠ m.current) → m.service = some .fill → act (.granted b) s = (s, [.endFill b .lanceLost]))) ∧
  (∀ (b : Bay) (u : UtilId) (s : State), act (.claim b u) s = (s.setUtil u
    { s.util u with
      claims := insertClaim { lane := b, urgent := s.urgent b, arrival := (s.util u).counter, kept := false } (s.util u).claims,
      counter := min 4294967295 ((s.util u).counter + 1) }, [.judge u])) ∧
  (∀ (b : Bay) (s : State), (s.visit b = none → s.urgent b = false) ∧ ∀ v, s.visit b = some v → s.urgent b = v.urgent) ∧
  (∀ (c : Claim) (q : List Claim),
    q.Pairwise (fun x y => x.urgent = y.urgent ∧ x.arrival ≤ y.arrival ∨ x.urgent = true ∧ y.urgent = false) →
    ∃ before behind : List Claim, q = before ++ behind ∧ insertClaim c q = before ++ c :: behind ∧
      (∀ x ∈ before, x.urgent = c.urgent ∧ x.arrival ≤ c.arrival ∨ x.urgent = true ∧ c.urgent = false) ∧
      (∀ y ∈ behind, c.urgent = y.urgent ∧ c.arrival < y.arrival ∨ c.urgent = true ∧ y.urgent = false)) ∧
  (∀ (c : Claim) (q : List Claim), (insertClaim c q).Perm (c :: q)) ∧
  (∀ (c : Claim) (q : List Claim),
    q.Pairwise (fun x y => x.urgent = y.urgent ∧ x.arrival ≤ y.arrival ∨ x.urgent = true ∧ y.urgent = false) →
    (insertClaim c q).Pairwise (fun x y => x.urgent = y.urgent ∧ x.arrival ≤ y.arrival ∨ x.urgent = true ∧ y.urgent = false)) ∧
  (∀ (x : Util) (b : Bay), (x.drop b).grants = x.grants.filter (fun c => decide (c.lane ≠ b)) ∧
    (x.drop b).claims = x.claims.filter (fun c => decide (c.lane ≠ b)) ∧
    ((x.drop b).grants = [] → (x.drop b).claims = [] → (x.drop b).counter = 0) ∧
    (((x.drop b).grants ≠ [] ∨ (x.drop b).claims ≠ []) → (x.drop b).counter = x.counter))

/-- A fault line's rise takes a utility in service out of it: each grant a kept claim, in the order of granting and behind a claim that waits where
priority and number are equal (log 32), each holder suspended, a FLUSH to be repeated, UTILITY_LOST raised. Its fall brings back a utility that is not offline: the queue
judged, and UTILITY_BACK raised after the grants it counts (log 9). Otherwise, and at a rise or fall to the level the line already has (log 27),
only the pin and the flag follow the line. -/
def Obligations.FaultLinesTakeAUtilityOutAndBringItBack : Prop :=
  (∀ (u : UtilId) (s p : State), s.pins.resetHeld = false →
    p = { s with pins := { s.pins with faults := s.pins.faults.set (utilIx u) true } } →
    ((s.util u).offline = false → (s.util u).fault = false →
      exec (.faultLineRise u) s = .next (((s.util u).grants.foldl (fun q c => q.suspend c.lane) (p.setUtil u
        { s.util u with fault := true, grants := [],
                        claims := (s.util u).grants.foldl (fun q c => insertClaim { c with kept := true } q) (s.util u).claims })
        ).raiseYard (.utilityLost u true (s.util u).grants.length)).choose) ∧
    (((s.util u).offline = true ∨ (s.util u).fault = true) →
      exec (.faultLineRise u) s = .next (p.setUtil u { s.util u with fault := true }).choose)) ∧
  (∀ (u : UtilId) (s p : State), s.pins.resetHeld = false →
    p = { s with pins := { s.pins with faults := s.pins.faults.set (utilIx u) false } } →
    ((s.util u).offline = false → (s.util u).fault = true →
      exec (.faultLineFall u) s = .next ((p.setUtil u { s.util u with fault := false, returning := some 0 }).settle
        [.judge u, .back u]).choose) ∧
    (((s.util u).offline = true ∨ (s.util u).fault = false) →
      exec (.faultLineFall u) s = .next (p.setUtil u { s.util u with fault := false }).choose)) ∧
  (∀ (u : UtilId) (n : Nat) (s : State), (s.util u).returning = some n →
    act (.back u) s = ((s.setUtil u { s.util u with returning := none }).raiseYard (.utilityBack u n), [])) ∧
  (∀ (b : Bay) (s : State),
    ((s.lane b).service = some .wash → (s.entry (s.lane b).index).kind = .flush →
      s.suspend b = s.setLane b { s.lane b with st := .suspended, delivered := 0 }) ∧
    (((s.lane b).service ≠ some .wash ∨ (s.entry (s.lane b).index).kind ≠ .flush) →
      s.suspend b = s.setLane b { s.lane b with st := .suspended }))

/-! ## Bay ports and bay orders -/

/-- The bytes of a node's message, received one after another by a hunting port of a machine whose transmitters have nothing left to choose, do what
the message's row does. A byte outside a message, an unknown type, a bad check and a timeout have no effect on the lane. Bay orders follow the lane
state at each change of it (log 7); a change of them goes out at once from a free port, and as they then stand when a busy port is free. A timeout
with nothing partly received, and an orders message's end with none going out, change nothing (log 13). -/
def Obligations.BayPortsTakeAndSendWholeMessages : Prop :=
  (∀ (c : Instr) (b : Bay) (type : Byte) (payload : List Byte) (s : State), asNodeMessage c = some (b, type, payload) →
    s.pins.resetHeld = false → (s.port b).partway = none → s.choose = s →
    ∃ t, exec c s = .next t ∧
      Host.Core.run Sys2Proof.core (portWire type payload).length
        { s with pending := (portWire type payload).map (Instr.portByteReceived b) ++ s.pending } = .next t) ∧
  (∀ (type : Byte) (n : Nat), payloadLength? type = some n ↔ (type.toNat, n) ∈ [(1, 3), (2, 1), (3, 0), (4, 0), (5, 0), (6, 1)]) ∧
  (∀ (b : Bay) (x : Byte) (s : State), s.pins.resetHeld = false →
    ((s.port b).partway = none → x ≠ 0x7A → exec (.portByteReceived b x) s = .next s.choose) ∧
    ((s.port b).partway = none → x = 0x7A →
      exec (.portByteReceived b x) s = .next (s.setPartway b (some [])).choose) ∧
    ((s.port b).partway = some [] → (x.toNat = 0 ∨ 6 < x.toNat) →
      exec (.portByteReceived b x) s = .next (s.setPartway b none).choose) ∧
    (∀ type payload, (s.port b).partway = some (type :: payload) → payloadLength? type = some payload.length →
      (type :: (payload ++ [x])).foldl (· + ·) 0 ≠ 0 →
      exec (.portByteReceived b x) s = .next (s.setPartway b none).choose) ∧
    exec (.bayPortTimeout b) s = .next (s.setPartway b none).choose ∧
    ((s.port b).sending = none → exec (.bayOrdersSent b) s = .next s.choose) ∧
    ((s.port b).sending ≠ none → (s.port b).due = false → exec (.bayOrdersSent b) s = .next
      ({ s with ports := s.ports.set b { s.port b with sending := none } } : State).choose) ∧
    ((s.port b).sending ≠ none → (s.port b).due = true → exec (.bayOrdersSent b) s = .next
      ({ s with ports := s.ports.set b { s.port b with sending := some (s.lane b).orders, due := false } } : State).choose)) ∧
  (∀ (b : Bay) (m : Lane) (s : State),
    (s.setLane b m).lane b = { m with orders := ordersOf (s.entry m.index) m } ∧
    s.setLane b m = { s with lanes := s.lanes.set b { m with orders := ordersOf (s.entry m.index) m }, ports := (s.setLane b m).ports } ∧
    (ordersOf (s.entry m.index) m = (s.lane b).orders → (s.setLane b m).ports = s.ports) ∧
    (ordersOf (s.entry m.index) m ≠ (s.lane b).orders →
      (s.setLane b m).ports = s.ports.set b (if (s.port b).sending = none
        then { s.port b with sending := some (ordersOf (s.entry m.index) m) } else { s.port b with due := true }))) ∧
  (∀ (d : Descriptor) (m : Lane),
    (m.st = .idle → ordersOf d m = { lance := m.orders.lance, supply := none, drain := true, fill := false, probe := false }) ∧
    (∀ k, m.st = .seating → m.current = some k →
      ordersOf d m = { lance := .seat k, supply := none, drain := true, fill := false, probe := false }) ∧
    ((m.st = .waitResource ∨ m.st = .held ∨ m.st = .suspended) →
      ordersOf d m = { lance := .stay, supply := none, drain := decide (m.service ≠ some .fill), fill := false, probe := false }) ∧
    (∀ u, m.st = .running → d.utility? = some u →
      ordersOf d m = { lance := .stay, supply := some u, drain := true, fill := false, probe := false }) ∧
    (m.st = .running → d.utility? = none →
      ordersOf d m = { lance := .stay, supply := none, drain := false, fill := false, probe := false }) ∧
    ((m.st = .draining ∨ m.st = .starved) →
      ordersOf d m = { lance := .stay, supply := none, drain := true, fill := false, probe := false }) ∧
    (m.st = .scanning → ordersOf d m = { lance := .stay, supply := none, drain := true, fill := false, probe := true }) ∧
    (m.st = .filling → ordersOf d m = { lance := .stay, supply := none, drain := false, fill := true, probe := false }))

/-! ## The reset line -/

/-- Held, the reset line leaves every block at its reset values and no row but those of the lines changes anything (log 12). Released, the part
begins from them with the straps, the stop line and the fault lines read, every port hunting with the reset orders going out, and every link
hunting with nothing in hand or going out, so that a frame partly sent is cut off. A release of a line not held has no effect (log 13). -/
def Obligations.TheResetLineReturnsThePartToItsResetValues : Prop :=
  (∀ s : State, exec .resetLineAssert s = .next
    { State.reset with
      pending := s.pending, freeCount := s.freeCount, pins := { s.pins with resetHeld := true }, officeRate := s.officeRate,
      ports := Vector.replicate 6 { partway := none, sending := none, due := false } }) ∧
  (∀ (straps : Fin 8) (s : State),
    (s.pins.resetHeld = true → ∃ t : State, exec (.resetLineRelease straps) s = .next t ∧
      (∀ u, t.util u = { capacity := (State.reset.util u).capacity, offline := false, fault := s.pins.faults[utilIx u], cargo := none,
                         grants := [], claims := [], counter := 0, returning := none }) ∧
      t = { State.reset with
            pending := s.pending, freeCount := s.freeCount, pins := { s.pins with resetHeld := false },
            officeRate := (if straps.val ≤ 5 then straps.val else 0), stopLevel := s.pins.stop, utils := t.utils }) ∧
    (s.pins.resetHeld = false → exec (.resetLineRelease straps) s = .next s)) ∧
  (∀ b : Bay, State.reset.port b = { partway := none, sending := some Orders.reset, due := false }) ∧
  (∀ l : LinkId, (State.reset.link l).assembly = .hunting ∧ (State.reset.link l).gapTimer = false ∧ (State.reset.link l).buffer = none ∧
    (State.reset.link l).inHand = false ∧ (State.reset.link l).reply = none ∧ (State.reset.link l).reject = none ∧
    (State.reset.link l).sending = none) ∧
  (∀ (c : Instr) (s : State), s.pins.resetHeld = true → isLineRow c = false → exec c s = .next s) ∧
  (∀ (v : Bool) (u : UtilId) (s : State), s.pins.resetHeld = true →
    exec (if v then .stopLineRise else .stopLineFall) s = .next { s with pins := { s.pins with stop := v } } ∧
    exec (if v then .faultLineRise u else .faultLineFall u) s =
      .next { s with pins := { s.pins with faults := s.pins.faults.set (utilIx u) v } })

/-! ## Cascades and invariants -/

/-- Whatever the state and the tasks, a cascade comes to its end, and changes none of what only a request, a line or a link owns. It carries out
its first task, then the tasks that follow from it, then those that were waiting (depth first, the model's choice, log 14), until none is left. -/
def Obligations.CascadesEndAndKeepTheirFrame : Prop :=
  (∀ s : State, s.settle [] = s) ∧
  (∀ (s : State) (t : Task) (ts : List Task), s.settle (t :: ts) = (act t s).1.settle ((act t s).2 ++ ts)) ∧
  ∀ (s : State) (ts : List Task), CascadeFrame s (s.settle ts) ∧ ∃ n, ∀ m, n ≤ m → settleFor m ts s = s.settle ts

/-- Every step keeps the notice queues, the certificate log and the record pool within their capacities, the write pointer in its window, the
log a run of consecutive numbers that ends one below the next certificate number, and each pending set one entry at most for each kind of its scope. -/
def Obligations.EveryStepKeepsTheCapacities : Prop :=
  ∀ s t : State, step s = .next t →
    (s.NoticeRoom → t.NoticeRoom) ∧ (s.LogRoom → t.LogRoom) ∧ (s.PoolRoom → t.PoolRoom) ∧ (s.PointerInWindow → t.PointerInWindow) ∧
    (s.NumbersRun → t.NumbersRun) ∧ (s.PendingKept → t.PendingKept)

/-- Every step keeps each link's hold on its one request, the hold causes in step with mode and marks, the bay orders in step with the lane state,
and no grant on a utility out of service. -/
def Obligations.EveryStepKeepsHandsCausesOrdersAndGrants : Prop :=
  ∀ s t : State, step s = .next t →
    (s.HandsKept → t.HandsKept) ∧ (s.CausesFollow → t.CausesFollow) ∧ (s.OrdersFollow → t.OrdersFollow) ∧
    (s.NoGrantsOutOfService → t.NoGrantsOutOfService)

/-- Every step keeps what the rules say of records, queues, lanes, claims, pins and the withheld list taken together: one record for each
compartment of a visit, served as its state says; no compartment twice in a queue or in the withheld list, which is exactly the AWAIT_CERT
records; the achieved class within the program class; FILLING only with a certificate number; at most one grant or claim for a lane, a grant only
in FILLING or RUNNING a step that draws on that utility; a pin exactly while a step is executed; a scan record exactly while an INSPECT step is, its
pointer at the zone its count has reached; a lane with a hold cause IDLE or HELD; and in DORMANT no visit, every lane IDLE and the orders parked,
none, open, closed, off. In such a yard, with causes and orders in step, the lane of a bay whose lockout mark is set, and every lane while the yard
is STOPPED, is IDLE or HELD, holds no grant and no claim, and its orders show supply none, fill valve closed and probe off. -/
def Obligations.EveryStepKeepsTheYardSound : Prop :=
  (∀ s t : State, s.YardSound → step s = .next t → t.YardSound) ∧
  (∀ (b : Bay) (s : State), s.YardSound → s.CausesFollow → s.OrdersFollow →
    (s.marks[b.val + 1]'(by omega) = true ∨ s.mode = .stopped) →
    ((s.lane b).st = .idle ∨ (s.lane b).st = .held) ∧ (∀ u : UtilId, ∀ c ∈ (s.util u).grants ++ (s.util u).claims, c.lane ≠ b) ∧
    (s.lane b).orders.supply = none ∧ (s.lane b).orders.fill = false ∧ (s.lane b).orders.probe = false)

/-- The machine after reset meets every invariant. -/
def Obligations.ResetMeetsTheInvariants : Prop :=
  State.reset.NoticeRoom ∧ State.reset.LogRoom ∧ State.reset.PoolRoom ∧ State.reset.PointerInWindow ∧ State.reset.HandsKept ∧
  State.reset.CausesFollow ∧ State.reset.OrdersFollow ∧ State.reset.NoGrantsOutOfService ∧ State.reset.NumbersRun ∧
  State.reset.PendingKept ∧ State.reset.YardSound

end
end

