-- ==== Sys2Proof/Laws/State.lean ====
section
/-! SUPPORT. Laws/State.lean: what each update leaves and sets, field by field. -/

namespace Sys2Proof.Machine

/-! `setLane` -/
@[simp] theorem pending_setLane (s : State) (b : Bay) (l : Lane) : (s.setLane b l).pending = s.pending := rfl
@[simp] theorem freeCount_setLane (s : State) (b : Bay) (l : Lane) : (s.setLane b l).freeCount = s.freeCount := rfl
@[simp] theorem pins_setLane (s : State) (b : Bay) (l : Lane) : (s.setLane b l).pins = s.pins := rfl
@[simp] theorem office_setLane (s : State) (b : Bay) (l : Lane) : (s.setLane b l).office = s.office := rfl
@[simp] theorem panel_setLane (s : State) (b : Bay) (l : Lane) : (s.setLane b l).panel = s.panel := rfl
@[simp] theorem officeRate_setLane (s : State) (b : Bay) (l : Lane) : (s.setLane b l).officeRate = s.officeRate := rfl
@[simp] theorem mode_setLane (s : State) (b : Bay) (l : Lane) : (s.setLane b l).mode = s.mode := rfl
@[simp] theorem stopLevel_setLane (s : State) (b : Bay) (l : Lane) : (s.setLane b l).stopLevel = s.stopLevel := rfl
@[simp] theorem marks_setLane (s : State) (b : Bay) (l : Lane) : (s.setLane b l).marks = s.marks := rfl
@[simp] theorem timing_setLane (s : State) (b : Bay) (l : Lane) : (s.setLane b l).timing = s.timing := rfl
@[simp] theorem visits_setLane (s : State) (b : Bay) (l : Lane) : (s.setLane b l).visits = s.visits := rfl
@[simp] theorem records_setLane (s : State) (b : Bay) (l : Lane) : (s.setLane b l).records = s.records := rfl
@[simp] theorem carry_setLane (s : State) (b : Bay) (l : Lane) : (s.setLane b l).carry = s.carry := rfl
@[simp] theorem store_setLane (s : State) (b : Bay) (l : Lane) : (s.setLane b l).store = s.store := rfl
@[simp] theorem maps_setLane (s : State) (b : Bay) (l : Lane) : (s.setLane b l).maps = s.maps := rfl
@[simp] theorem scans_setLane (s : State) (b : Bay) (l : Lane) : (s.setLane b l).scans = s.scans := rfl
@[simp] theorem verdicts_setLane (s : State) (b : Bay) (l : Lane) : (s.setLane b l).verdicts = s.verdicts := rfl
@[simp] theorem utils_setLane (s : State) (b : Bay) (l : Lane) : (s.setLane b l).utils = s.utils := rfl
@[simp] theorem certs_setLane (s : State) (b : Bay) (l : Lane) : (s.setLane b l).certs = s.certs := rfl
@[simp] theorem notices_setLane (s : State) (b : Bay) (l : Lane) : (s.setLane b l).notices = s.notices := rfl

/-! `amendLane` -/
@[simp] theorem pending_amendLane (s : State) (b : Bay) (l : Lane) : (s.amendLane b l).pending = s.pending := rfl
@[simp] theorem freeCount_amendLane (s : State) (b : Bay) (l : Lane) : (s.amendLane b l).freeCount = s.freeCount := rfl
@[simp] theorem pins_amendLane (s : State) (b : Bay) (l : Lane) : (s.amendLane b l).pins = s.pins := rfl
@[simp] theorem office_amendLane (s : State) (b : Bay) (l : Lane) : (s.amendLane b l).office = s.office := rfl
@[simp] theorem panel_amendLane (s : State) (b : Bay) (l : Lane) : (s.amendLane b l).panel = s.panel := rfl
@[simp] theorem officeRate_amendLane (s : State) (b : Bay) (l : Lane) : (s.amendLane b l).officeRate = s.officeRate := rfl
@[simp] theorem mode_amendLane (s : State) (b : Bay) (l : Lane) : (s.amendLane b l).mode = s.mode := rfl
@[simp] theorem stopLevel_amendLane (s : State) (b : Bay) (l : Lane) : (s.amendLane b l).stopLevel = s.stopLevel := rfl
@[simp] theorem marks_amendLane (s : State) (b : Bay) (l : Lane) : (s.amendLane b l).marks = s.marks := rfl
@[simp] theorem timing_amendLane (s : State) (b : Bay) (l : Lane) : (s.amendLane b l).timing = s.timing := rfl
@[simp] theorem visits_amendLane (s : State) (b : Bay) (l : Lane) : (s.amendLane b l).visits = s.visits := rfl
@[simp] theorem records_amendLane (s : State) (b : Bay) (l : Lane) : (s.amendLane b l).records = s.records := rfl
@[simp] theorem carry_amendLane (s : State) (b : Bay) (l : Lane) : (s.amendLane b l).carry = s.carry := rfl
@[simp] theorem store_amendLane (s : State) (b : Bay) (l : Lane) : (s.amendLane b l).store = s.store := rfl
@[simp] theorem ports_amendLane (s : State) (b : Bay) (l : Lane) : (s.amendLane b l).ports = s.ports := rfl
@[simp] theorem maps_amendLane (s : State) (b : Bay) (l : Lane) : (s.amendLane b l).maps = s.maps := rfl
@[simp] theorem scans_amendLane (s : State) (b : Bay) (l : Lane) : (s.amendLane b l).scans = s.scans := rfl
@[simp] theorem verdicts_amendLane (s : State) (b : Bay) (l : Lane) : (s.amendLane b l).verdicts = s.verdicts := rfl
@[simp] theorem utils_amendLane (s : State) (b : Bay) (l : Lane) : (s.amendLane b l).utils = s.utils := rfl
@[simp] theorem certs_amendLane (s : State) (b : Bay) (l : Lane) : (s.amendLane b l).certs = s.certs := rfl
@[simp] theorem notices_amendLane (s : State) (b : Bay) (l : Lane) : (s.amendLane b l).notices = s.notices := rfl

/-! `setPin` -/
@[simp] theorem pending_setPin (s : State) (b : Bay) (i : Option StepIx) : (s.setPin b i).pending = s.pending := rfl
@[simp] theorem freeCount_setPin (s : State) (b : Bay) (i : Option StepIx) : (s.setPin b i).freeCount = s.freeCount := rfl
@[simp] theorem pins_setPin (s : State) (b : Bay) (i : Option StepIx) : (s.setPin b i).pins = s.pins := rfl
@[simp] theorem office_setPin (s : State) (b : Bay) (i : Option StepIx) : (s.setPin b i).office = s.office := rfl
@[simp] theorem panel_setPin (s : State) (b : Bay) (i : Option StepIx) : (s.setPin b i).panel = s.panel := rfl
@[simp] theorem officeRate_setPin (s : State) (b : Bay) (i : Option StepIx) : (s.setPin b i).officeRate = s.officeRate := rfl
@[simp] theorem mode_setPin (s : State) (b : Bay) (i : Option StepIx) : (s.setPin b i).mode = s.mode := rfl
@[simp] theorem stopLevel_setPin (s : State) (b : Bay) (i : Option StepIx) : (s.setPin b i).stopLevel = s.stopLevel := rfl
@[simp] theorem marks_setPin (s : State) (b : Bay) (i : Option StepIx) : (s.setPin b i).marks = s.marks := rfl
@[simp] theorem timing_setPin (s : State) (b : Bay) (i : Option StepIx) : (s.setPin b i).timing = s.timing := rfl
@[simp] theorem visits_setPin (s : State) (b : Bay) (i : Option StepIx) : (s.setPin b i).visits = s.visits := rfl
@[simp] theorem records_setPin (s : State) (b : Bay) (i : Option StepIx) : (s.setPin b i).records = s.records := rfl
@[simp] theorem carry_setPin (s : State) (b : Bay) (i : Option StepIx) : (s.setPin b i).carry = s.carry := rfl
@[simp] theorem lanes_setPin (s : State) (b : Bay) (i : Option StepIx) : (s.setPin b i).lanes = s.lanes := rfl
@[simp] theorem ports_setPin (s : State) (b : Bay) (i : Option StepIx) : (s.setPin b i).ports = s.ports := rfl
@[simp] theorem maps_setPin (s : State) (b : Bay) (i : Option StepIx) : (s.setPin b i).maps = s.maps := rfl
@[simp] theorem scans_setPin (s : State) (b : Bay) (i : Option StepIx) : (s.setPin b i).scans = s.scans := rfl
@[simp] theorem verdicts_setPin (s : State) (b : Bay) (i : Option StepIx) : (s.setPin b i).verdicts = s.verdicts := rfl
@[simp] theorem utils_setPin (s : State) (b : Bay) (i : Option StepIx) : (s.setPin b i).utils = s.utils := rfl
@[simp] theorem certs_setPin (s : State) (b : Bay) (i : Option StepIx) : (s.setPin b i).certs = s.certs := rfl
@[simp] theorem notices_setPin (s : State) (b : Bay) (i : Option StepIx) : (s.setPin b i).notices = s.notices := rfl

/-! `setScan` -/
@[simp] theorem pending_setScan (s : State) (b : Bay) (x : Option Scan) : (s.setScan b x).pending = s.pending := rfl
@[simp] theorem freeCount_setScan (s : State) (b : Bay) (x : Option Scan) : (s.setScan b x).freeCount = s.freeCount := rfl
@[simp] theorem pins_setScan (s : State) (b : Bay) (x : Option Scan) : (s.setScan b x).pins = s.pins := rfl
@[simp] theorem office_setScan (s : State) (b : Bay) (x : Option Scan) : (s.setScan b x).office = s.office := rfl
@[simp] theorem panel_setScan (s : State) (b : Bay) (x : Option Scan) : (s.setScan b x).panel = s.panel := rfl
@[simp] theorem officeRate_setScan (s : State) (b : Bay) (x : Option Scan) : (s.setScan b x).officeRate = s.officeRate := rfl
@[simp] theorem mode_setScan (s : State) (b : Bay) (x : Option Scan) : (s.setScan b x).mode = s.mode := rfl
@[simp] theorem stopLevel_setScan (s : State) (b : Bay) (x : Option Scan) : (s.setScan b x).stopLevel = s.stopLevel := rfl
@[simp] theorem marks_setScan (s : State) (b : Bay) (x : Option Scan) : (s.setScan b x).marks = s.marks := rfl
@[simp] theorem timing_setScan (s : State) (b : Bay) (x : Option Scan) : (s.setScan b x).timing = s.timing := rfl
@[simp] theorem visits_setScan (s : State) (b : Bay) (x : Option Scan) : (s.setScan b x).visits = s.visits := rfl
@[simp] theorem records_setScan (s : State) (b : Bay) (x : Option Scan) : (s.setScan b x).records = s.records := rfl
@[simp] theorem carry_setScan (s : State) (b : Bay) (x : Option Scan) : (s.setScan b x).carry = s.carry := rfl
@[simp] theorem store_setScan (s : State) (b : Bay) (x : Option Scan) : (s.setScan b x).store = s.store := rfl
@[simp] theorem lanes_setScan (s : State) (b : Bay) (x : Option Scan) : (s.setScan b x).lanes = s.lanes := rfl
@[simp] theorem ports_setScan (s : State) (b : Bay) (x : Option Scan) : (s.setScan b x).ports = s.ports := rfl
@[simp] theorem maps_setScan (s : State) (b : Bay) (x : Option Scan) : (s.setScan b x).maps = s.maps := rfl
@[simp] theorem verdicts_setScan (s : State) (b : Bay) (x : Option Scan) : (s.setScan b x).verdicts = s.verdicts := rfl
@[simp] theorem utils_setScan (s : State) (b : Bay) (x : Option Scan) : (s.setScan b x).utils = s.utils := rfl
@[simp] theorem certs_setScan (s : State) (b : Bay) (x : Option Scan) : (s.setScan b x).certs = s.certs := rfl
@[simp] theorem notices_setScan (s : State) (b : Bay) (x : Option Scan) : (s.setScan b x).notices = s.notices := rfl

/-! `setResidue` -/
@[simp] theorem pending_setResidue (s : State) (b : Bay) (m : ResidueMap) : (s.setResidue b m).pending = s.pending := rfl
@[simp] theorem freeCount_setResidue (s : State) (b : Bay) (m : ResidueMap) : (s.setResidue b m).freeCount = s.freeCount := rfl
@[simp] theorem pins_setResidue (s : State) (b : Bay) (m : ResidueMap) : (s.setResidue b m).pins = s.pins := rfl
@[simp] theorem office_setResidue (s : State) (b : Bay) (m : ResidueMap) : (s.setResidue b m).office = s.office := rfl
@[simp] theorem panel_setResidue (s : State) (b : Bay) (m : ResidueMap) : (s.setResidue b m).panel = s.panel := rfl
@[simp] theorem officeRate_setResidue (s : State) (b : Bay) (m : ResidueMap) : (s.setResidue b m).officeRate = s.officeRate := rfl
@[simp] theorem mode_setResidue (s : State) (b : Bay) (m : ResidueMap) : (s.setResidue b m).mode = s.mode := rfl
@[simp] theorem stopLevel_setResidue (s : State) (b : Bay) (m : ResidueMap) : (s.setResidue b m).stopLevel = s.stopLevel := rfl
@[simp] theorem marks_setResidue (s : State) (b : Bay) (m : ResidueMap) : (s.setResidue b m).marks = s.marks := rfl
@[simp] theorem timing_setResidue (s : State) (b : Bay) (m : ResidueMap) : (s.setResidue b m).timing = s.timing := rfl
@[simp] theorem visits_setResidue (s : State) (b : Bay) (m : ResidueMap) : (s.setResidue b m).visits = s.visits := rfl
@[simp] theorem records_setResidue (s : State) (b : Bay) (m : ResidueMap) : (s.setResidue b m).records = s.records := rfl
@[simp] theorem carry_setResidue (s : State) (b : Bay) (m : ResidueMap) : (s.setResidue b m).carry = s.carry := rfl
@[simp] theorem store_setResidue (s : State) (b : Bay) (m : ResidueMap) : (s.setResidue b m).store = s.store := rfl
@[simp] theorem lanes_setResidue (s : State) (b : Bay) (m : ResidueMap) : (s.setResidue b m).lanes = s.lanes := rfl
@[simp] theorem ports_setResidue (s : State) (b : Bay) (m : ResidueMap) : (s.setResidue b m).ports = s.ports := rfl
@[simp] theorem scans_setResidue (s : State) (b : Bay) (m : ResidueMap) : (s.setResidue b m).scans = s.scans := rfl
@[simp] theorem verdicts_setResidue (s : State) (b : Bay) (m : ResidueMap) : (s.setResidue b m).verdicts = s.verdicts := rfl
@[simp] theorem utils_setResidue (s : State) (b : Bay) (m : ResidueMap) : (s.setResidue b m).utils = s.utils := rfl
@[simp] theorem certs_setResidue (s : State) (b : Bay) (m : ResidueMap) : (s.setResidue b m).certs = s.certs := rfl
@[simp] theorem notices_setResidue (s : State) (b : Bay) (m : ResidueMap) : (s.setResidue b m).notices = s.notices := rfl

/-! `setVisit` -/
@[simp] theorem pending_setVisit (s : State) (b : Bay) (v : Option Visit) : (s.setVisit b v).pending = s.pending := rfl
@[simp] theorem freeCount_setVisit (s : State) (b : Bay) (v : Option Visit) : (s.setVisit b v).freeCount = s.freeCount := rfl
@[simp] theorem pins_setVisit (s : State) (b : Bay) (v : Option Visit) : (s.setVisit b v).pins = s.pins := rfl
@[simp] theorem office_setVisit (s : State) (b : Bay) (v : Option Visit) : (s.setVisit b v).office = s.office := rfl
@[simp] theorem panel_setVisit (s : State) (b : Bay) (v : Option Visit) : (s.setVisit b v).panel = s.panel := rfl
@[simp] theorem officeRate_setVisit (s : State) (b : Bay) (v : Option Visit) : (s.setVisit b v).officeRate = s.officeRate := rfl
@[simp] theorem mode_setVisit (s : State) (b : Bay) (v : Option Visit) : (s.setVisit b v).mode = s.mode := rfl
@[simp] theorem stopLevel_setVisit (s : State) (b : Bay) (v : Option Visit) : (s.setVisit b v).stopLevel = s.stopLevel := rfl
@[simp] theorem marks_setVisit (s : State) (b : Bay) (v : Option Visit) : (s.setVisit b v).marks = s.marks := rfl
@[simp] theorem timing_setVisit (s : State) (b : Bay) (v : Option Visit) : (s.setVisit b v).timing = s.timing := rfl
@[simp] theorem records_setVisit (s : State) (b : Bay) (v : Option Visit) : (s.setVisit b v).records = s.records := rfl
@[simp] theorem carry_setVisit (s : State) (b : Bay) (v : Option Visit) : (s.setVisit b v).carry = s.carry := rfl
@[simp] theorem store_setVisit (s : State) (b : Bay) (v : Option Visit) : (s.setVisit b v).store = s.store := rfl
@[simp] theorem lanes_setVisit (s : State) (b : Bay) (v : Option Visit) : (s.setVisit b v).lanes = s.lanes := rfl
@[simp] theorem ports_setVisit (s : State) (b : Bay) (v : Option Visit) : (s.setVisit b v).ports = s.ports := rfl
@[simp] theorem maps_setVisit (s : State) (b : Bay) (v : Option Visit) : (s.setVisit b v).maps = s.maps := rfl
@[simp] theorem scans_setVisit (s : State) (b : Bay) (v : Option Visit) : (s.setVisit b v).scans = s.scans := rfl
@[simp] theorem verdicts_setVisit (s : State) (b : Bay) (v : Option Visit) : (s.setVisit b v).verdicts = s.verdicts := rfl
@[simp] theorem utils_setVisit (s : State) (b : Bay) (v : Option Visit) : (s.setVisit b v).utils = s.utils := rfl
@[simp] theorem certs_setVisit (s : State) (b : Bay) (v : Option Visit) : (s.setVisit b v).certs = s.certs := rfl
@[simp] theorem notices_setVisit (s : State) (b : Bay) (v : Option Visit) : (s.setVisit b v).notices = s.notices := rfl

/-! `modRecord` -/
@[simp] theorem pending_modRecord (s : State) (b : Bay) (k : Nat) (f : Comp → Comp) : (s.modRecord b k f).pending = s.pending := rfl
@[simp] theorem freeCount_modRecord (s : State) (b : Bay) (k : Nat) (f : Comp → Comp) : (s.modRecord b k f).freeCount = s.freeCount := rfl
@[simp] theorem pins_modRecord (s : State) (b : Bay) (k : Nat) (f : Comp → Comp) : (s.modRecord b k f).pins = s.pins := rfl
@[simp] theorem office_modRecord (s : State) (b : Bay) (k : Nat) (f : Comp → Comp) : (s.modRecord b k f).office = s.office := rfl
@[simp] theorem panel_modRecord (s : State) (b : Bay) (k : Nat) (f : Comp → Comp) : (s.modRecord b k f).panel = s.panel := rfl
@[simp] theorem officeRate_modRecord (s : State) (b : Bay) (k : Nat) (f : Comp → Comp) : (s.modRecord b k f).officeRate = s.officeRate := rfl
@[simp] theorem mode_modRecord (s : State) (b : Bay) (k : Nat) (f : Comp → Comp) : (s.modRecord b k f).mode = s.mode := rfl
@[simp] theorem stopLevel_modRecord (s : State) (b : Bay) (k : Nat) (f : Comp → Comp) : (s.modRecord b k f).stopLevel = s.stopLevel := rfl
@[simp] theorem marks_modRecord (s : State) (b : Bay) (k : Nat) (f : Comp → Comp) : (s.modRecord b k f).marks = s.marks := rfl
@[simp] theorem timing_modRecord (s : State) (b : Bay) (k : Nat) (f : Comp → Comp) : (s.modRecord b k f).timing = s.timing := rfl
@[simp] theorem visits_modRecord (s : State) (b : Bay) (k : Nat) (f : Comp → Comp) : (s.modRecord b k f).visits = s.visits := rfl
@[simp] theorem carry_modRecord (s : State) (b : Bay) (k : Nat) (f : Comp → Comp) : (s.modRecord b k f).carry = s.carry := rfl
@[simp] theorem store_modRecord (s : State) (b : Bay) (k : Nat) (f : Comp → Comp) : (s.modRecord b k f).store = s.store := rfl
@[simp] theorem lanes_modRecord (s : State) (b : Bay) (k : Nat) (f : Comp → Comp) : (s.modRecord b k f).lanes = s.lanes := rfl
@[simp] theorem ports_modRecord (s : State) (b : Bay) (k : Nat) (f : Comp → Comp) : (s.modRecord b k f).ports = s.ports := rfl
@[simp] theorem maps_modRecord (s : State) (b : Bay) (k : Nat) (f : Comp → Comp) : (s.modRecord b k f).maps = s.maps := rfl
@[simp] theorem scans_modRecord (s : State) (b : Bay) (k : Nat) (f : Comp → Comp) : (s.modRecord b k f).scans = s.scans := rfl
@[simp] theorem verdicts_modRecord (s : State) (b : Bay) (k : Nat) (f : Comp → Comp) : (s.modRecord b k f).verdicts = s.verdicts := rfl
@[simp] theorem utils_modRecord (s : State) (b : Bay) (k : Nat) (f : Comp → Comp) : (s.modRecord b k f).utils = s.utils := rfl
@[simp] theorem certs_modRecord (s : State) (b : Bay) (k : Nat) (f : Comp → Comp) : (s.modRecord b k f).certs = s.certs := rfl
@[simp] theorem notices_modRecord (s : State) (b : Bay) (k : Nat) (f : Comp → Comp) : (s.modRecord b k f).notices = s.notices := rfl

/-! `setUtil` -/
@[simp] theorem pending_setUtil (s : State) (u : UtilId) (x : Util) : (s.setUtil u x).pending = s.pending := rfl
@[simp] theorem freeCount_setUtil (s : State) (u : UtilId) (x : Util) : (s.setUtil u x).freeCount = s.freeCount := rfl
@[simp] theorem pins_setUtil (s : State) (u : UtilId) (x : Util) : (s.setUtil u x).pins = s.pins := rfl
@[simp] theorem office_setUtil (s : State) (u : UtilId) (x : Util) : (s.setUtil u x).office = s.office := rfl
@[simp] theorem panel_setUtil (s : State) (u : UtilId) (x : Util) : (s.setUtil u x).panel = s.panel := rfl
@[simp] theorem officeRate_setUtil (s : State) (u : UtilId) (x : Util) : (s.setUtil u x).officeRate = s.officeRate := rfl
@[simp] theorem mode_setUtil (s : State) (u : UtilId) (x : Util) : (s.setUtil u x).mode = s.mode := rfl
@[simp] theorem stopLevel_setUtil (s : State) (u : UtilId) (x : Util) : (s.setUtil u x).stopLevel = s.stopLevel := rfl
@[simp] theorem marks_setUtil (s : State) (u : UtilId) (x : Util) : (s.setUtil u x).marks = s.marks := rfl
@[simp] theorem timing_setUtil (s : State) (u : UtilId) (x : Util) : (s.setUtil u x).timing = s.timing := rfl
@[simp] theorem visits_setUtil (s : State) (u : UtilId) (x : Util) : (s.setUtil u x).visits = s.visits := rfl
@[simp] theorem records_setUtil (s : State) (u : UtilId) (x : Util) : (s.setUtil u x).records = s.records := rfl
@[simp] theorem carry_setUtil (s : State) (u : UtilId) (x : Util) : (s.setUtil u x).carry = s.carry := rfl
@[simp] theorem store_setUtil (s : State) (u : UtilId) (x : Util) : (s.setUtil u x).store = s.store := rfl
@[simp] theorem lanes_setUtil (s : State) (u : UtilId) (x : Util) : (s.setUtil u x).lanes = s.lanes := rfl
@[simp] theorem ports_setUtil (s : State) (u : UtilId) (x : Util) : (s.setUtil u x).ports = s.ports := rfl
@[simp] theorem maps_setUtil (s : State) (u : UtilId) (x : Util) : (s.setUtil u x).maps = s.maps := rfl
@[simp] theorem scans_setUtil (s : State) (u : UtilId) (x : Util) : (s.setUtil u x).scans = s.scans := rfl
@[simp] theorem verdicts_setUtil (s : State) (u : UtilId) (x : Util) : (s.setUtil u x).verdicts = s.verdicts := rfl
@[simp] theorem certs_setUtil (s : State) (u : UtilId) (x : Util) : (s.setUtil u x).certs = s.certs := rfl
@[simp] theorem notices_setUtil (s : State) (u : UtilId) (x : Util) : (s.setUtil u x).notices = s.notices := rfl

/-! `raiseBay` -/
@[simp] theorem pending_raiseBay (s : State) (b : Bay) (e : Event) : (s.raiseBay b e).pending = s.pending := rfl
@[simp] theorem freeCount_raiseBay (s : State) (b : Bay) (e : Event) : (s.raiseBay b e).freeCount = s.freeCount := rfl
@[simp] theorem pins_raiseBay (s : State) (b : Bay) (e : Event) : (s.raiseBay b e).pins = s.pins := rfl
@[simp] theorem office_raiseBay (s : State) (b : Bay) (e : Event) : (s.raiseBay b e).office = s.office := rfl
@[simp] theorem panel_raiseBay (s : State) (b : Bay) (e : Event) : (s.raiseBay b e).panel = s.panel := rfl
@[simp] theorem officeRate_raiseBay (s : State) (b : Bay) (e : Event) : (s.raiseBay b e).officeRate = s.officeRate := rfl
@[simp] theorem mode_raiseBay (s : State) (b : Bay) (e : Event) : (s.raiseBay b e).mode = s.mode := rfl
@[simp] theorem stopLevel_raiseBay (s : State) (b : Bay) (e : Event) : (s.raiseBay b e).stopLevel = s.stopLevel := rfl
@[simp] theorem marks_raiseBay (s : State) (b : Bay) (e : Event) : (s.raiseBay b e).marks = s.marks := rfl
@[simp] theorem timing_raiseBay (s : State) (b : Bay) (e : Event) : (s.raiseBay b e).timing = s.timing := rfl
@[simp] theorem visits_raiseBay (s : State) (b : Bay) (e : Event) : (s.raiseBay b e).visits = s.visits := rfl
@[simp] theorem records_raiseBay (s : State) (b : Bay) (e : Event) : (s.raiseBay b e).records = s.records := rfl
@[simp] theorem carry_raiseBay (s : State) (b : Bay) (e : Event) : (s.raiseBay b e).carry = s.carry := rfl
@[simp] theorem store_raiseBay (s : State) (b : Bay) (e : Event) : (s.raiseBay b e).store = s.store := rfl
@[simp] theorem lanes_raiseBay (s : State) (b : Bay) (e : Event) : (s.raiseBay b e).lanes = s.lanes := rfl
@[simp] theorem ports_raiseBay (s : State) (b : Bay) (e : Event) : (s.raiseBay b e).ports = s.ports := rfl
@[simp] theorem maps_raiseBay (s : State) (b : Bay) (e : Event) : (s.raiseBay b e).maps = s.maps := rfl
@[simp] theorem scans_raiseBay (s : State) (b : Bay) (e : Event) : (s.raiseBay b e).scans = s.scans := rfl
@[simp] theorem verdicts_raiseBay (s : State) (b : Bay) (e : Event) : (s.raiseBay b e).verdicts = s.verdicts := rfl
@[simp] theorem utils_raiseBay (s : State) (b : Bay) (e : Event) : (s.raiseBay b e).utils = s.utils := rfl
@[simp] theorem certs_raiseBay (s : State) (b : Bay) (e : Event) : (s.raiseBay b e).certs = s.certs := rfl

/-! `raiseYard` -/
@[simp] theorem pending_raiseYard (s : State) (e : Event) : (s.raiseYard e).pending = s.pending := rfl
@[simp] theorem freeCount_raiseYard (s : State) (e : Event) : (s.raiseYard e).freeCount = s.freeCount := rfl
@[simp] theorem pins_raiseYard (s : State) (e : Event) : (s.raiseYard e).pins = s.pins := rfl
@[simp] theorem office_raiseYard (s : State) (e : Event) : (s.raiseYard e).office = s.office := rfl
@[simp] theorem panel_raiseYard (s : State) (e : Event) : (s.raiseYard e).panel = s.panel := rfl
@[simp] theorem officeRate_raiseYard (s : State) (e : Event) : (s.raiseYard e).officeRate = s.officeRate := rfl
@[simp] theorem mode_raiseYard (s : State) (e : Event) : (s.raiseYard e).mode = s.mode := rfl
@[simp] theorem stopLevel_raiseYard (s : State) (e : Event) : (s.raiseYard e).stopLevel = s.stopLevel := rfl
@[simp] theorem marks_raiseYard (s : State) (e : Event) : (s.raiseYard e).marks = s.marks := rfl
@[simp] theorem timing_raiseYard (s : State) (e : Event) : (s.raiseYard e).timing = s.timing := rfl
@[simp] theorem visits_raiseYard (s : State) (e : Event) : (s.raiseYard e).visits = s.visits := rfl
@[simp] theorem records_raiseYard (s : State) (e : Event) : (s.raiseYard e).records = s.records := rfl
@[simp] theorem carry_raiseYard (s : State) (e : Event) : (s.raiseYard e).carry = s.carry := rfl
@[simp] theorem store_raiseYard (s : State) (e : Event) : (s.raiseYard e).store = s.store := rfl
@[simp] theorem lanes_raiseYard (s : State) (e : Event) : (s.raiseYard e).lanes = s.lanes := rfl
@[simp] theorem ports_raiseYard (s : State) (e : Event) : (s.raiseYard e).ports = s.ports := rfl
@[simp] theorem maps_raiseYard (s : State) (e : Event) : (s.raiseYard e).maps = s.maps := rfl
@[simp] theorem scans_raiseYard (s : State) (e : Event) : (s.raiseYard e).scans = s.scans := rfl
@[simp] theorem verdicts_raiseYard (s : State) (e : Event) : (s.raiseYard e).verdicts = s.verdicts := rfl
@[simp] theorem utils_raiseYard (s : State) (e : Event) : (s.raiseYard e).utils = s.utils := rfl
@[simp] theorem certs_raiseYard (s : State) (e : Event) : (s.raiseYard e).certs = s.certs := rfl

/-! `setPartway` -/
@[simp] theorem pending_setPartway (s : State) (b : Bay) (p : Option (List Byte)) : (s.setPartway b p).pending = s.pending := rfl
@[simp] theorem freeCount_setPartway (s : State) (b : Bay) (p : Option (List Byte)) : (s.setPartway b p).freeCount = s.freeCount := rfl
@[simp] theorem pins_setPartway (s : State) (b : Bay) (p : Option (List Byte)) : (s.setPartway b p).pins = s.pins := rfl
@[simp] theorem office_setPartway (s : State) (b : Bay) (p : Option (List Byte)) : (s.setPartway b p).office = s.office := rfl
@[simp] theorem panel_setPartway (s : State) (b : Bay) (p : Option (List Byte)) : (s.setPartway b p).panel = s.panel := rfl
@[simp] theorem officeRate_setPartway (s : State) (b : Bay) (p : Option (List Byte)) : (s.setPartway b p).officeRate = s.officeRate := rfl
@[simp] theorem mode_setPartway (s : State) (b : Bay) (p : Option (List Byte)) : (s.setPartway b p).mode = s.mode := rfl
@[simp] theorem stopLevel_setPartway (s : State) (b : Bay) (p : Option (List Byte)) : (s.setPartway b p).stopLevel = s.stopLevel := rfl
@[simp] theorem marks_setPartway (s : State) (b : Bay) (p : Option (List Byte)) : (s.setPartway b p).marks = s.marks := rfl
@[simp] theorem timing_setPartway (s : State) (b : Bay) (p : Option (List Byte)) : (s.setPartway b p).timing = s.timing := rfl
@[simp] theorem visits_setPartway (s : State) (b : Bay) (p : Option (List Byte)) : (s.setPartway b p).visits = s.visits := rfl
@[simp] theorem records_setPartway (s : State) (b : Bay) (p : Option (List Byte)) : (s.setPartway b p).records = s.records := rfl
@[simp] theorem carry_setPartway (s : State) (b : Bay) (p : Option (List Byte)) : (s.setPartway b p).carry = s.carry := rfl
@[simp] theorem store_setPartway (s : State) (b : Bay) (p : Option (List Byte)) : (s.setPartway b p).store = s.store := rfl
@[simp] theorem lanes_setPartway (s : State) (b : Bay) (p : Option (List Byte)) : (s.setPartway b p).lanes = s.lanes := rfl
@[simp] theorem maps_setPartway (s : State) (b : Bay) (p : Option (List Byte)) : (s.setPartway b p).maps = s.maps := rfl
@[simp] theorem scans_setPartway (s : State) (b : Bay) (p : Option (List Byte)) : (s.setPartway b p).scans = s.scans := rfl
@[simp] theorem verdicts_setPartway (s : State) (b : Bay) (p : Option (List Byte)) : (s.setPartway b p).verdicts = s.verdicts := rfl
@[simp] theorem utils_setPartway (s : State) (b : Bay) (p : Option (List Byte)) : (s.setPartway b p).utils = s.utils := rfl
@[simp] theorem certs_setPartway (s : State) (b : Bay) (p : Option (List Byte)) : (s.setPartway b p).certs = s.certs := rfl
@[simp] theorem notices_setPartway (s : State) (b : Bay) (p : Option (List Byte)) : (s.setPartway b p).notices = s.notices := rfl

/-! `setCerts` -/
@[simp] theorem pending_setCerts (s : State) (u : CertUnit) : (s.setCerts u).pending = s.pending := rfl
@[simp] theorem freeCount_setCerts (s : State) (u : CertUnit) : (s.setCerts u).freeCount = s.freeCount := rfl
@[simp] theorem pins_setCerts (s : State) (u : CertUnit) : (s.setCerts u).pins = s.pins := rfl
@[simp] theorem office_setCerts (s : State) (u : CertUnit) : (s.setCerts u).office = s.office := rfl
@[simp] theorem panel_setCerts (s : State) (u : CertUnit) : (s.setCerts u).panel = s.panel := rfl
@[simp] theorem officeRate_setCerts (s : State) (u : CertUnit) : (s.setCerts u).officeRate = s.officeRate := rfl
@[simp] theorem mode_setCerts (s : State) (u : CertUnit) : (s.setCerts u).mode = s.mode := rfl
@[simp] theorem stopLevel_setCerts (s : State) (u : CertUnit) : (s.setCerts u).stopLevel = s.stopLevel := rfl
@[simp] theorem marks_setCerts (s : State) (u : CertUnit) : (s.setCerts u).marks = s.marks := rfl
@[simp] theorem timing_setCerts (s : State) (u : CertUnit) : (s.setCerts u).timing = s.timing := rfl
@[simp] theorem visits_setCerts (s : State) (u : CertUnit) : (s.setCerts u).visits = s.visits := rfl
@[simp] theorem records_setCerts (s : State) (u : CertUnit) : (s.setCerts u).records = s.records := rfl
@[simp] theorem carry_setCerts (s : State) (u : CertUnit) : (s.setCerts u).carry = s.carry := rfl
@[simp] theorem store_setCerts (s : State) (u : CertUnit) : (s.setCerts u).store = s.store := rfl
@[simp] theorem lanes_setCerts (s : State) (u : CertUnit) : (s.setCerts u).lanes = s.lanes := rfl
@[simp] theorem ports_setCerts (s : State) (u : CertUnit) : (s.setCerts u).ports = s.ports := rfl
@[simp] theorem maps_setCerts (s : State) (u : CertUnit) : (s.setCerts u).maps = s.maps := rfl
@[simp] theorem scans_setCerts (s : State) (u : CertUnit) : (s.setCerts u).scans = s.scans := rfl
@[simp] theorem verdicts_setCerts (s : State) (u : CertUnit) : (s.setCerts u).verdicts = s.verdicts := rfl
@[simp] theorem utils_setCerts (s : State) (u : CertUnit) : (s.setCerts u).utils = s.utils := rfl
@[simp] theorem certs_setCerts (s : State) (u : CertUnit) : (s.setCerts u).certs = u := rfl
@[simp] theorem notices_setCerts (s : State) (u : CertUnit) : (s.setCerts u).notices = s.notices := rfl

/-! `setNotices` -/
@[simp] theorem pending_setNotices (s : State) (u : NoticeUnit) : (s.setNotices u).pending = s.pending := rfl
@[simp] theorem freeCount_setNotices (s : State) (u : NoticeUnit) : (s.setNotices u).freeCount = s.freeCount := rfl
@[simp] theorem pins_setNotices (s : State) (u : NoticeUnit) : (s.setNotices u).pins = s.pins := rfl
@[simp] theorem office_setNotices (s : State) (u : NoticeUnit) : (s.setNotices u).office = s.office := rfl
@[simp] theorem panel_setNotices (s : State) (u : NoticeUnit) : (s.setNotices u).panel = s.panel := rfl
@[simp] theorem officeRate_setNotices (s : State) (u : NoticeUnit) : (s.setNotices u).officeRate = s.officeRate := rfl
@[simp] theorem mode_setNotices (s : State) (u : NoticeUnit) : (s.setNotices u).mode = s.mode := rfl
@[simp] theorem stopLevel_setNotices (s : State) (u : NoticeUnit) : (s.setNotices u).stopLevel = s.stopLevel := rfl
@[simp] theorem marks_setNotices (s : State) (u : NoticeUnit) : (s.setNotices u).marks = s.marks := rfl
@[simp] theorem timing_setNotices (s : State) (u : NoticeUnit) : (s.setNotices u).timing = s.timing := rfl
@[simp] theorem visits_setNotices (s : State) (u : NoticeUnit) : (s.setNotices u).visits = s.visits := rfl
@[simp] theorem records_setNotices (s : State) (u : NoticeUnit) : (s.setNotices u).records = s.records := rfl
@[simp] theorem carry_setNotices (s : State) (u : NoticeUnit) : (s.setNotices u).carry = s.carry := rfl
@[simp] theorem store_setNotices (s : State) (u : NoticeUnit) : (s.setNotices u).store = s.store := rfl
@[simp] theorem lanes_setNotices (s : State) (u : NoticeUnit) : (s.setNotices u).lanes = s.lanes := rfl
@[simp] theorem ports_setNotices (s : State) (u : NoticeUnit) : (s.setNotices u).ports = s.ports := rfl
@[simp] theorem maps_setNotices (s : State) (u : NoticeUnit) : (s.setNotices u).maps = s.maps := rfl
@[simp] theorem scans_setNotices (s : State) (u : NoticeUnit) : (s.setNotices u).scans = s.scans := rfl
@[simp] theorem verdicts_setNotices (s : State) (u : NoticeUnit) : (s.setNotices u).verdicts = s.verdicts := rfl
@[simp] theorem utils_setNotices (s : State) (u : NoticeUnit) : (s.setNotices u).utils = s.utils := rfl
@[simp] theorem certs_setNotices (s : State) (u : NoticeUnit) : (s.setNotices u).certs = s.certs := rfl
@[simp] theorem notices_setNotices (s : State) (u : NoticeUnit) : (s.setNotices u).notices = u := rfl

/-! `setRecords` -/
@[simp] theorem pending_setRecords (s : State) (rs : List Comp) : (s.setRecords rs).pending = s.pending := rfl
@[simp] theorem freeCount_setRecords (s : State) (rs : List Comp) : (s.setRecords rs).freeCount = s.freeCount := rfl
@[simp] theorem pins_setRecords (s : State) (rs : List Comp) : (s.setRecords rs).pins = s.pins := rfl
@[simp] theorem office_setRecords (s : State) (rs : List Comp) : (s.setRecords rs).office = s.office := rfl
@[simp] theorem panel_setRecords (s : State) (rs : List Comp) : (s.setRecords rs).panel = s.panel := rfl
@[simp] theorem officeRate_setRecords (s : State) (rs : List Comp) : (s.setRecords rs).officeRate = s.officeRate := rfl
@[simp] theorem mode_setRecords (s : State) (rs : List Comp) : (s.setRecords rs).mode = s.mode := rfl
@[simp] theorem stopLevel_setRecords (s : State) (rs : List Comp) : (s.setRecords rs).stopLevel = s.stopLevel := rfl
@[simp] theorem marks_setRecords (s : State) (rs : List Comp) : (s.setRecords rs).marks = s.marks := rfl
@[simp] theorem timing_setRecords (s : State) (rs : List Comp) : (s.setRecords rs).timing = s.timing := rfl
@[simp] theorem visits_setRecords (s : State) (rs : List Comp) : (s.setRecords rs).visits = s.visits := rfl
@[simp] theorem records_setRecords (s : State) (rs : List Comp) : (s.setRecords rs).records = rs := rfl
@[simp] theorem carry_setRecords (s : State) (rs : List Comp) : (s.setRecords rs).carry = s.carry := rfl
@[simp] theorem store_setRecords (s : State) (rs : List Comp) : (s.setRecords rs).store = s.store := rfl
@[simp] theorem lanes_setRecords (s : State) (rs : List Comp) : (s.setRecords rs).lanes = s.lanes := rfl
@[simp] theorem ports_setRecords (s : State) (rs : List Comp) : (s.setRecords rs).ports = s.ports := rfl
@[simp] theorem maps_setRecords (s : State) (rs : List Comp) : (s.setRecords rs).maps = s.maps := rfl
@[simp] theorem scans_setRecords (s : State) (rs : List Comp) : (s.setRecords rs).scans = s.scans := rfl
@[simp] theorem verdicts_setRecords (s : State) (rs : List Comp) : (s.setRecords rs).verdicts = s.verdicts := rfl
@[simp] theorem utils_setRecords (s : State) (rs : List Comp) : (s.setRecords rs).utils = s.utils := rfl
@[simp] theorem certs_setRecords (s : State) (rs : List Comp) : (s.setRecords rs).certs = s.certs := rfl
@[simp] theorem notices_setRecords (s : State) (rs : List Comp) : (s.setRecords rs).notices = s.notices := rfl

/-! `modServed` -/
@[simp] theorem pending_modServed (s : State) (b : Bay) (f : Comp → Comp) : (s.modServed b f).pending = s.pending := by
  unfold State.modServed; split <;> rfl
@[simp] theorem freeCount_modServed (s : State) (b : Bay) (f : Comp → Comp) : (s.modServed b f).freeCount = s.freeCount := by
  unfold State.modServed; split <;> rfl
@[simp] theorem pins_modServed (s : State) (b : Bay) (f : Comp → Comp) : (s.modServed b f).pins = s.pins := by
  unfold State.modServed; split <;> rfl
@[simp] theorem office_modServed (s : State) (b : Bay) (f : Comp → Comp) : (s.modServed b f).office = s.office := by
  unfold State.modServed; split <;> rfl
@[simp] theorem panel_modServed (s : State) (b : Bay) (f : Comp → Comp) : (s.modServed b f).panel = s.panel := by
  unfold State.modServed; split <;> rfl
@[simp] theorem officeRate_modServed (s : State) (b : Bay) (f : Comp → Comp) : (s.modServed b f).officeRate = s.officeRate := by
  unfold State.modServed; split <;> rfl
@[simp] theorem mode_modServed (s : State) (b : Bay) (f : Comp → Comp) : (s.modServed b f).mode = s.mode := by
  unfold State.modServed; split <;> rfl
@[simp] theorem stopLevel_modServed (s : State) (b : Bay) (f : Comp → Comp) : (s.modServed b f).stopLevel = s.stopLevel := by
  unfold State.modServed; split <;> rfl
@[simp] theorem marks_modServed (s : State) (b : Bay) (f : Comp → Comp) : (s.modServed b f).marks = s.marks := by
  unfold State.modServed; split <;> rfl
@[simp] theorem timing_modServed (s : State) (b : Bay) (f : Comp → Comp) : (s.modServed b f).timing = s.timing := by
  unfold State.modServed; split <;> rfl
@[simp] theorem visits_modServed (s : State) (b : Bay) (f : Comp → Comp) : (s.modServed b f).visits = s.visits := by
  unfold State.modServed; split <;> rfl
@[simp] theorem carry_modServed (s : State) (b : Bay) (f : Comp → Comp) : (s.modServed b f).carry = s.carry := by
  unfold State.modServed; split <;> rfl
@[simp] theorem store_modServed (s : State) (b : Bay) (f : Comp → Comp) : (s.modServed b f).store = s.store := by
  unfold State.modServed; split <;> rfl
@[simp] theorem lanes_modServed (s : State) (b : Bay) (f : Comp → Comp) : (s.modServed b f).lanes = s.lanes := by
  unfold State.modServed; split <;> rfl
@[simp] theorem ports_modServed (s : State) (b : Bay) (f : Comp → Comp) : (s.modServed b f).ports = s.ports := by
  unfold State.modServed; split <;> rfl
@[simp] theorem maps_modServed (s : State) (b : Bay) (f : Comp → Comp) : (s.modServed b f).maps = s.maps := by
  unfold State.modServed; split <;> rfl
@[simp] theorem scans_modServed (s : State) (b : Bay) (f : Comp → Comp) : (s.modServed b f).scans = s.scans := by
  unfold State.modServed; split <;> rfl
@[simp] theorem verdicts_modServed (s : State) (b : Bay) (f : Comp → Comp) : (s.modServed b f).verdicts = s.verdicts := by
  unfold State.modServed; split <;> rfl
@[simp] theorem utils_modServed (s : State) (b : Bay) (f : Comp → Comp) : (s.modServed b f).utils = s.utils := by
  unfold State.modServed; split <;> rfl
@[simp] theorem certs_modServed (s : State) (b : Bay) (f : Comp → Comp) : (s.modServed b f).certs = s.certs := by
  unfold State.modServed; split <;> rfl
@[simp] theorem notices_modServed (s : State) (b : Bay) (f : Comp → Comp) : (s.modServed b f).notices = s.notices := by
  unfold State.modServed; split <;> rfl

/-! `setLink` -/
@[simp] theorem pending_setLink (s : State) (l : LinkId) (x : Link) : (s.setLink l x).pending = s.pending := by cases l <;> rfl
@[simp] theorem freeCount_setLink (s : State) (l : LinkId) (x : Link) : (s.setLink l x).freeCount = s.freeCount := by cases l <;> rfl
@[simp] theorem pins_setLink (s : State) (l : LinkId) (x : Link) : (s.setLink l x).pins = s.pins := by cases l <;> rfl
@[simp] theorem officeRate_setLink (s : State) (l : LinkId) (x : Link) : (s.setLink l x).officeRate = s.officeRate := by cases l <;> rfl
@[simp] theorem mode_setLink (s : State) (l : LinkId) (x : Link) : (s.setLink l x).mode = s.mode := by cases l <;> rfl
@[simp] theorem stopLevel_setLink (s : State) (l : LinkId) (x : Link) : (s.setLink l x).stopLevel = s.stopLevel := by cases l <;> rfl
@[simp] theorem marks_setLink (s : State) (l : LinkId) (x : Link) : (s.setLink l x).marks = s.marks := by cases l <;> rfl
@[simp] theorem timing_setLink (s : State) (l : LinkId) (x : Link) : (s.setLink l x).timing = s.timing := by cases l <;> rfl
@[simp] theorem visits_setLink (s : State) (l : LinkId) (x : Link) : (s.setLink l x).visits = s.visits := by cases l <;> rfl
@[simp] theorem records_setLink (s : State) (l : LinkId) (x : Link) : (s.setLink l x).records = s.records := by cases l <;> rfl
@[simp] theorem carry_setLink (s : State) (l : LinkId) (x : Link) : (s.setLink l x).carry = s.carry := by cases l <;> rfl
@[simp] theorem store_setLink (s : State) (l : LinkId) (x : Link) : (s.setLink l x).store = s.store := by cases l <;> rfl
@[simp] theorem lanes_setLink (s : State) (l : LinkId) (x : Link) : (s.setLink l x).lanes = s.lanes := by cases l <;> rfl
@[simp] theorem ports_setLink (s : State) (l : LinkId) (x : Link) : (s.setLink l x).ports = s.ports := by cases l <;> rfl
@[simp] theorem maps_setLink (s : State) (l : LinkId) (x : Link) : (s.setLink l x).maps = s.maps := by cases l <;> rfl
@[simp] theorem scans_setLink (s : State) (l : LinkId) (x : Link) : (s.setLink l x).scans = s.scans := by cases l <;> rfl
@[simp] theorem verdicts_setLink (s : State) (l : LinkId) (x : Link) : (s.setLink l x).verdicts = s.verdicts := by cases l <;> rfl
@[simp] theorem utils_setLink (s : State) (l : LinkId) (x : Link) : (s.setLink l x).utils = s.utils := by cases l <;> rfl
@[simp] theorem certs_setLink (s : State) (l : LinkId) (x : Link) : (s.setLink l x).certs = s.certs := by cases l <;> rfl
@[simp] theorem notices_setLink (s : State) (l : LinkId) (x : Link) : (s.setLink l x).notices = s.notices := by cases l <;> rfl

/-! Accessors after the update they read. -/

@[simp] theorem link_setLink (s : State) (l : LinkId) (x : Link) : (s.setLink l x).link l = x := by cases l <;> rfl
@[simp] theorem lane_setLane (s : State) (b : Bay) (l : Lane) :
    (s.setLane b l).lane b = { l with orders := ordersOf (s.entry l.index) l } := by simp [State.lane, State.setLane]
theorem lane_setLane_other (s : State) {b c : Bay} (l : Lane) (h : b ≠ c) : (s.setLane b l).lane c = s.lane c := by
  have : b.val ≠ c.val := fun e => h (Fin.ext e)
  simp [State.lane, State.setLane, this]
@[simp] theorem lane_amendLane (s : State) (b : Bay) (l : Lane) :
    (s.amendLane b l).lane b = { l with orders := (s.lane b).orders } := by simp [State.lane, State.amendLane]
theorem lane_amendLane_other (s : State) {b c : Bay} (l : Lane) (h : b ≠ c) : (s.amendLane b l).lane c = s.lane c := by
  have : b.val ≠ c.val := fun e => h (Fin.ext e)
  simp [State.lane, State.amendLane, this]
@[simp] theorem lane_setPin (s : State) (b c : Bay) (i : Option StepIx) : (s.setPin b i).lane c = s.lane c := rfl
@[simp] theorem lane_setScan (s : State) (b c : Bay) (x : Option Scan) : (s.setScan b x).lane c = s.lane c := rfl
@[simp] theorem lane_setResidue (s : State) (b c : Bay) (m : ResidueMap) : (s.setResidue b m).lane c = s.lane c := rfl
@[simp] theorem lane_modRecord (s : State) (b c : Bay) (k : Nat) (f : Comp → Comp) : (s.modRecord b k f).lane c = s.lane c := rfl
@[simp] theorem lane_modServed (s : State) (b c : Bay) (f : Comp → Comp) : (s.modServed b f).lane c = s.lane c := by
  simp [State.lane]
@[simp] theorem lane_setUtil (s : State) (u : UtilId) (c : Bay) (x : Util) : (s.setUtil u x).lane c = s.lane c := rfl
@[simp] theorem lane_raiseBay (s : State) (b c : Bay) (e : Event) : (s.raiseBay b e).lane c = s.lane c := rfl
@[simp] theorem lane_raiseYard (s : State) (c : Bay) (e : Event) : (s.raiseYard e).lane c = s.lane c := rfl
@[simp] theorem lane_setCerts (s : State) (c : Bay) (u : CertUnit) : (s.setCerts u).lane c = s.lane c := rfl
@[simp] theorem lane_setNotices (s : State) (c : Bay) (u : NoticeUnit) : (s.setNotices u).lane c = s.lane c := rfl
@[simp] theorem lane_setRecords (s : State) (c : Bay) (rs : List Comp) : (s.setRecords rs).lane c = s.lane c := rfl
@[simp] theorem lane_countFree (s : State) (c : Bay) : s.countFree.lane c = s.lane c := rfl
@[simp] theorem util_setUtil (s : State) (u : UtilId) (x : Util) : (s.setUtil u x).util u = x := by simp [State.util, State.setUtil]
theorem utilIx_injective : Function.Injective utilIx := by intro a b; cases a <;> cases b <;> decide
theorem util_setUtil_other (s : State) {u v : UtilId} (x : Util) (h : u ≠ v) : (s.setUtil u x).util v = s.util v := by
  have : (utilIx u).val ≠ (utilIx v).val := fun e => h (utilIx_injective (Fin.ext e))
  simp [State.util, State.setUtil, this]
@[simp] theorem util_setLane (s : State) (b : Bay) (l : Lane) (u : UtilId) : (s.setLane b l).util u = s.util u := rfl
@[simp] theorem entry_setLane (s : State) (b : Bay) (l : Lane) (i : StepIx) : (s.setLane b l).entry i = s.entry i := rfl
@[simp] theorem util_amendLane (s : State) (b : Bay) (l : Lane) (u : UtilId) : (s.amendLane b l).util u = s.util u := rfl
@[simp] theorem entry_amendLane (s : State) (b : Bay) (l : Lane) (i : StepIx) : (s.amendLane b l).entry i = s.entry i := rfl
@[simp] theorem entry_setPin (s : State) (b : Bay) (p : Option StepIx) (i : StepIx) : (s.setPin b p).entry i = s.entry i := rfl
@[simp] theorem entries_setPin (s : State) (b : Bay) (p : Option StepIx) : (s.setPin b p).store.entries = s.store.entries := rfl
@[simp] theorem visit_setVisit (s : State) (b : Bay) (v : Option Visit) : (s.setVisit b v).visit b = v := by
  simp [State.visit, State.setVisit]
@[simp] theorem scan_setScan (s : State) (b : Bay) (x : Option Scan) : (s.setScan b x).scan b = x := by
  simp [State.scan, State.setScan]
@[simp] theorem residue_setResidue (s : State) (b : Bay) (m : ResidueMap) : (s.setResidue b m).residue b = m := by
  simp [State.residue, State.setResidue]

end Sys2Proof.Machine
end

