-- ==== Sys2Proof/Laws/Cascade.lean ====
section
/-! SUPPORT. Laws/Cascade.lean: what a cascade's tasks can do. The frame every task keeps, the measure every task lowers, and induction
over the tasks carried out. -/

namespace Sys2Proof.Machine

/-! ## Induction -/

/-- What every task keeps, a run of tasks keeps. -/
theorem settleFor_keeps (P : State → Prop) (h : ∀ t s, P s → P (act t s).1) (n : Nat) (ts : List Task) (s : State) (hs : P s) :
    P (settleFor n ts s) := by
  induction n generalizing ts s with
  | zero => cases ts <;> simpa [settleFor] using hs
  | succ n ih =>
    cases ts with
    | nil => simpa [settleFor] using hs
    | cons t ts => exact ih _ _ (h t s hs)

/-- What every task keeps, a cascade keeps. -/
theorem settle_keeps (P : State → Prop) (h : ∀ t s, P s → P (act t s).1) (ts : List Task) (s : State) (hs : P s) :
    P (s.settle ts) := settleFor_keeps P h _ ts s hs

/-! ## The frame -/

namespace CascadeFrame

theorem refl (s : State) : CascadeFrame s s := by constructor <;> rfl
theorem trans {s t u : State} (h : CascadeFrame s t) (k : CascadeFrame t u) : CascadeFrame s u := by
  constructor <;> first
    | exact k.pending.trans h.pending | exact k.pins.trans h.pins | exact k.office.trans h.office | exact k.panel.trans h.panel
    | exact k.officeRate.trans h.officeRate | exact k.mode.trans h.mode | exact k.stopLevel.trans h.stopLevel
    | exact k.marks.trans h.marks | exact k.timing.trans h.timing | exact k.visits.trans h.visits | exact k.carry.trans h.carry
    | exact k.verdicts.trans h.verdicts | exact k.entries.trans h.entries | exact k.windowFirst.trans h.windowFirst
    | exact k.windowLast.trans h.windowLast | exact k.pointer.trans h.pointer | exact k.period.trans h.period
    | exact k.highWater.trans h.highWater | exact k.clock.trans h.clock | exact k.masks.trans h.masks
    | exact k.showMasked.trans h.showMasked | exact k.output.trans h.output

variable {s t : State}

theorem setLane (h : CascadeFrame s t) (b : Bay) (l : Lane) : CascadeFrame s (t.setLane b l) :=
  h.trans (by constructor <;> rfl)
theorem amendLane (h : CascadeFrame s t) (b : Bay) (l : Lane) : CascadeFrame s (t.amendLane b l) :=
  h.trans (by constructor <;> rfl)
theorem setPin (h : CascadeFrame s t) (b : Bay) (i : Option StepIx) : CascadeFrame s (t.setPin b i) :=
  h.trans (by constructor <;> rfl)
theorem setScan (h : CascadeFrame s t) (b : Bay) (x : Option Scan) : CascadeFrame s (t.setScan b x) :=
  h.trans (by constructor <;> rfl)
theorem setResidue (h : CascadeFrame s t) (b : Bay) (m : ResidueMap) : CascadeFrame s (t.setResidue b m) :=
  h.trans (by constructor <;> rfl)
theorem modRecord (h : CascadeFrame s t) (b : Bay) (k : Nat) (f : Comp → Comp) : CascadeFrame s (t.modRecord b k f) :=
  h.trans (by constructor <;> rfl)
theorem modServed (h : CascadeFrame s t) (b : Bay) (f : Comp → Comp) : CascadeFrame s (t.modServed b f) :=
  h.trans (by constructor <;> simp)
theorem setUtil (h : CascadeFrame s t) (u : UtilId) (x : Util) : CascadeFrame s (t.setUtil u x) :=
  h.trans (by constructor <;> rfl)

end CascadeFrame

/-! The notice unit's settings, which raising and logging leave. -/

/-- A notice unit's three settings are another's. -/
structure SameSettings (u v : NoticeUnit) : Prop where
  masks : v.masks = u.masks
  showMasked : v.showMasked = u.showMasked
  output : v.output = u.output

theorem SameSettings.refl (u : NoticeUnit) : SameSettings u u := ⟨rfl, rfl, rfl⟩
theorem SameSettings.trans {u v w : NoticeUnit} (h : SameSettings u v) (k : SameSettings v w) : SameSettings u w :=
  ⟨k.masks.trans h.masks, k.showMasked.trans h.showMasked, k.output.trans h.output⟩

theorem settleCounter_settings (u : NoticeUnit) : SameSettings u u.settleCounter := by
  unfold NoticeUnit.settleCounter; split <;> exact ⟨rfl, rfl, rfl⟩
theorem removeKind_settings (u : NoticeUnit) (sc : Scope) (k : EventKind) : SameSettings u (u.removeKind sc k) := by
  unfold NoticeUnit.removeKind
  exact SameSettings.trans (v := { u with pending := u.pending.set sc ((u.set sc).filter fun x => x.event.kind ≠ k) })
    ⟨rfl, rfl, rfl⟩ (settleCounter_settings _)
theorem setQueue_settings (u : NoticeUnit) (urgent : Bool) (q : List Notice) : SameSettings u (u.setQueue urgent q) := by
  unfold NoticeUnit.setQueue; split <;> exact ⟨rfl, rfl, rfl⟩
theorem logOne_settings {u v : NoticeUnit} {urgent : Bool} (h : u.logOne urgent = some v) : SameSettings u v := by
  unfold NoticeUnit.logOne at h
  split at h
  · split at h
    · cases h
    · injection h with h
      subst h
      exact (setQueue_settings u urgent _).trans (removeKind_settings _ _ _)
  · cases h
theorem logUpTo_settings (n : Nat) (urgent : Bool) (u : NoticeUnit) : SameSettings u (NoticeUnit.logUpTo n urgent u) := by
  induction n generalizing u with
  | zero => exact .refl u
  | succ n ih =>
    unfold NoticeUnit.logUpTo
    split
    · exact .refl u
    · next u' h => exact (logOne_settings h).trans (ih u')
theorem judge_settings (u : NoticeUnit) (urgent : Bool) : SameSettings u (u.judge urgent) := logUpTo_settings _ _ _
theorem enter_settings (u : NoticeUnit) (sc : Scope) (e : Event) : SameSettings u (u.enter sc e) := by
  unfold NoticeUnit.enter; split <;> exact ⟨rfl, rfl, rfl⟩
theorem raise_settings (u : NoticeUnit) (sc : Scope) (e : Event) : SameSettings u (u.raise sc e) :=
  (enter_settings u sc e).trans (judge_settings _ _)

namespace CascadeFrame

variable {s t : State}

theorem raiseBay (h : CascadeFrame s t) (b : Bay) (e : Event) : CascadeFrame s (t.raiseBay b e) :=
  h.trans (by
    have k := raise_settings t.notices (bayScope b) e
    constructor <;> first | rfl | exact k.masks | exact k.showMasked | exact k.output)
theorem raiseYard (h : CascadeFrame s t) (e : Event) : CascadeFrame s (t.raiseYard e) :=
  h.trans (by
    have k := raise_settings t.notices 0 e
    constructor <;> first | rfl | exact k.masks | exact k.showMasked | exact k.output)
theorem appendEntry (h : CascadeFrame s t) (b : Bay) (e : QEntry) : CascadeFrame s (t.appendEntry b e) := h.setLane b _
/-- The certificate unit replaced by one of the same settings and clock. -/
theorem setCerts (h : CascadeFrame s t) {u : CertUnit} (hp : u.period = t.certs.period := by rfl)
    (hw : u.highWater = t.certs.highWater := by rfl) (hc : u.clock = t.certs.clock := by rfl) : CascadeFrame s (t.setCerts u) :=
  h.trans (by constructor <;> first | rfl | exact hp | exact hw | exact hc)
theorem judgeBacklog (h : CascadeFrame s t) : CascadeFrame s t.judgeBacklog := by
  unfold State.judgeBacklog
  dsimp only
  split
  · exact h
  · exact (h.setCerts).raiseYard _
theorem enterAuditHold (h : CascadeFrame s t) (spent : Bool) (n : Nat) : CascadeFrame s (t.enterAuditHold spent n) :=
  (h.setCerts).raiseYard _
theorem withhold (h : CascadeFrame s t) (b : Bay) (k : Nat) (f : Bool) : CascadeFrame s (t.withhold b k f) := by
  unfold State.withhold
  dsimp only
  split
  · exact ((h.setCerts).modRecord _ _ _).enterAuditHold _ _
  · exact (h.setCerts).modRecord _ _ _
theorem countIssue (h : CascadeFrame s t) (n : Nat) : CascadeFrame s (t.countIssue n) := by
  unfold State.countIssue
  dsimp only
  have h1 : CascadeFrame s (t.setCerts { t.certs with counter := satAdd Config.max8 t.certs.counter 1 }) :=
    h.setCerts
  repeat' (first | exact h1 | exact h1.enterAuditHold _ _ | split)
theorem markCertified (h : CascadeFrame s t) (n : Nat) (r : Comp) : CascadeFrame s (t.markCertified n r) := by
  unfold State.markCertified
  dsimp only
  split
  · exact (h.modRecord _ _ _).appendEntry _ _
  · exact h.modRecord _ _ _
theorem issueTo (h : CascadeFrame s t) (n : Nat) (r : Comp) (f : Bool) : CascadeFrame s (t.issueTo n r f) :=
  ((((h.setCerts : CascadeFrame s (t.logCert n r f)).markCertified _ _).raiseBay _ _).judgeBacklog).countIssue _
theorem release (h : CascadeFrame s t) (b : Bay) : CascadeFrame s (t.release b).1 := by
  unfold State.release
  split
  · exact h
  · exact h.setUtil _ _
theorem countFree (h : CascadeFrame s t) : CascadeFrame s t.countFree := h.trans (by constructor <;> rfl)
theorem goNext (h : CascadeFrame s t) (b : Bay) (l : Lane) : CascadeFrame s (t.goNext b l) := by
  unfold State.goNext State.nextOf
  dsimp only
  split
  · exact h.amendLane _ _
  · exact h.countFree.amendLane _ _
theorem beginSeating (h : CascadeFrame s t) (b : Bay) (l : Lane) : CascadeFrame s (t.beginSeating b l) := h.setLane b _

end CascadeFrame

open CascadeFrame in
/-- No task changes what the frame names. -/
theorem act_frame (t : Task) (s : State) : CascadeFrame s (act t s).1 := by
  have h0 := CascadeFrame.refl s
  cases t <;> simp only [act]
  case judge u =>
    unfold actJudge; dsimp only
    split
    · exact h0
    · split
      · exact h0.setUtil _ _
      · exact h0
  case granted b => unfold actGranted; dsimp only; repeat' (first | exact h0 | exact h0.setLane _ _ | split)
  case back u => unfold actBack; exact (h0.setUtil _ _).raiseYard _
  case idle b =>
    unfold actIdle; dsimp only
    split
    · split
      · exact h0
      · split
        · split
          · exact h0
          · unfold State.takeWash; dsimp only
            split
            · exact ((h0.modRecord _ _ _).setResidue _ _).setLane _ _
            · exact ((h0.modRecord _ _ _).setResidue _ _).beginSeating _ _
        · unfold State.takeFill; dsimp only
          split
          · exact h0.setLane _ _
          · split
            · exact h0.setLane _ _
            · split
              · exact ((h0.modRecord _ _ _).setLane _ _).raiseBay _ _
              · split
                · exact (h0.modRecord _ _ _).setLane _ _
                · exact (h0.modRecord _ _ _).beginSeating _ _
    · exact h0
  case fetch b =>
    unfold actFetch; dsimp only
    have h2 : CascadeFrame s (if (s.lane b).fetched = 0 then (s.setPin b (some (s.lane b).index)).modServed b
        fun r => { r with dirty := none } else s.setPin b (some (s.lane b).index)) := by
      split
      · exact (h0.setPin _ _).modServed _ _
      · exact h0.setPin _ _
    split
    · exact h0
    · split
      · exact h2.amendLane _ _
      · split
        · exact h2.setLane _ _
        · exact h2.setLane _ _
        · split
          · exact h2.setLane _ _
          · exact h2.amendLane _ _
        · split
          · exact (h2.setScan _ _).setLane _ _
          · exact h2.amendLane _ _
        · exact h2.amendLane _ _
  case claim b u => exact h0.setUtil _ _
  case fillWait b =>
    unfold actFillWait; dsimp only
    repeat' (first | exact h0.setLane _ _ | split)
  case abort b r => exact h0.release _
  case aborted b r => exact ((((h0.setPin _ _).setScan _ _).modServed _ _).setLane _ _).raiseBay _ _
  case endFill b e => exact h0.release _
  case fillEnded b e =>
    unfold actFillEnded; dsimp only
    refine setLane ?_ _ _
    split
    · exact h0.modServed _ _
    · refine raiseBay ?_ _ _
      unfold State.raiseFillExtra
      split <;> first | exact (h0.modServed _ _).raiseBay _ _ | exact h0.modServed _ _
  case stepEnd b => exact h0.release _
  case stepEnded b =>
    unfold actStepEnded; dsimp only
    have h1 := (h0.setPin b none).raiseBay b (.stepDone (s.servedIndex b) (s.lane b).index (s.stepOf b).kind (s.lane b).delivered)
    split
    · split
      · exact h1.setLane _ _
      · exact h1
    · exact h1
  case proceed b =>
    unfold actProceed; dsimp only
    split
    · exact h0
    · split
      · exact h0.setLane _ _
      · exact h0.goNext _ _
  case programEnd b =>
    unfold actProgramEnd; dsimp only
    split
    · split
      · exact h0
      · exact (h0.modServed _ _).raiseBay _ _
    · exact (h0.modServed _ _).raiseBay _ _
  case toIdle b => exact h0.setLane _ _
  case certify b k f =>
    unfold actCertify
    split
    · exact h0
    · split
      · exact h0.withhold _ _ _
      · split
        · exact h0.issueTo _ _ _
        · exact h0.withhold _ _ _
  case drain =>
    unfold actDrain; dsimp only
    split
    · split
      · split
        · exact h0.setCerts
        · exact (h0.setCerts).issueTo _ _ _
      · exact h0
    · exact h0
  case hold b c =>
    unfold actHold; dsimp only
    split
    · exact h0
    · split
      · exact (h0.setLane _ _).release _
      · exact h0.setLane _ _
  case unhold b c =>
    unfold actUnhold; dsimp only
    split
    · split
      · split
        · unfold State.resume State.resumeChecked; dsimp only
          repeat' (first | exact h0.setLane _ _ | exact h0.goNext _ _ | split)
        · exact h0.setLane _ _
        · exact h0.setLane _ _
      · exact h0.setLane _ _
    · exact h0
  case modeChange l e c => exact h0.raiseYard _

end Sys2Proof.Machine
end

