-- ==== Sys2Proof/Laws/Links.lean ====
section
/-! SUPPORT. Laws/Links.lean: what the link unit does with a request, and what a transmitter's choice leaves. -/

namespace Sys2Proof.Machine

@[simp] theorem setLink_link (s : State) (l : LinkId) : s.setLink l (s.link l) = s := by cases l <;> rfl
@[simp] theorem setLink_setLink (s : State) (l : LinkId) (x y : Link) : (s.setLink l x).setLink l y = s.setLink l y := by
  cases l <;> rfl

/-- An event while the reset line is released. -/
theorem live_released (s : State) (f : State → State) (h : s.pins.resetHeld = false) : s.live f = (f s).choose := by
  simp [State.live, h]
/-- An event while the reset line is held changes nothing (log 12). -/
theorem live_held (s : State) (f : State → State) (h : s.pins.resetHeld = true) : s.live f = s := by simp [State.live, h]

/-- A request row runs as its request's frame. -/
theorem exec_asRequest {c : Instr} {l : LinkId} {tag : Byte} {r : Request} (h : asRequest c = some (l, tag, r)) (s : State) :
    exec c s = .next (s.request l tag r) := by
  cases c <;> simp only [asRequest, Option.some.injEq, Prod.mk.injEq, reduceCtorEq] at h <;> obtain ⟨rfl, rfl, rfl⟩ := h <;> rfl

/-- A frame at a free link is taken at once. -/
theorem arrive_free (s : State) (l : LinkId) (f : Frame) (x : Reading) (hb : (s.link l).buffer = none)
    (hh : (s.link l).inHand = false) : s.arrive l f x = s.takeFrame l f.kind f.tag x := by simp [State.arrive, hb, hh]
/-- A frame waits behind a request in hand. -/
theorem arrive_waits (s : State) (l : LinkId) (f : Frame) (x : Reading) (hb : (s.link l).buffer = none)
    (hh : (s.link l).inHand = true) : s.arrive l f x = s.setLink l { s.link l with buffer := some f } := by
  simp [State.arrive, hb, hh]
/-- A frame that finds the buffer full is lost. -/
theorem arrive_overrun (s : State) (l : LinkId) (f : Frame) (x : Reading) (hb : (s.link l).buffer.isSome = true) :
    s.arrive l f x = s.setLink l ((s.link l).fail .overrun) := by simp [State.arrive, hb]

/-- A request on a free link is served and answered. -/
theorem request_free (s : State) (l : LinkId) (tag : Byte) (r : Request) (h : s.LinkFree l) :
    s.request l tag r = (s.serve l r.kind (.request r)).1.answered l r.kind tag (s.serve l r.kind (.request r)).2 := by
  unfold State.request
  rw [live_released _ _ h.1, arrive_free _ _ _ _ h.2.1 h.2.2]
  rfl

/-- A permitted request goes to its owner. -/
theorem serve_permitted (s : State) (l : LinkId) (r : Request) (h : permitted l r.kind = true) :
    s.serve l r.kind (.request r) = answer r s := by simp [State.serve, h]

/-- Every kind is permitted on the office link. -/
@[simp] theorem permitted_office (k : Byte) : permitted .office k = true := by
  have h : (LinkId.office == LinkId.panel) = false := rfl
  simp [permitted, h]

/-- A permitted request row on a free link: the owner's answer, with the reply in hand. -/
theorem exec_free {c : Instr} {l : LinkId} {tag : Byte} {r : Request} (h : asRequest c = some (l, tag, r)) (s : State)
    (hf : s.LinkFree l) (hp : permitted l r.kind = true) :
    exec c s = .next ((answer r s).1.answered l r.kind tag (answer r s).2) := by
  rw [exec_asRequest h, request_free s l tag r hf, serve_permitted s l r hp]

/-! A transmitter's choice. -/

@[simp] theorem choose_buffer (x : Link) : x.choose.buffer = x.buffer := by unfold Link.choose; repeat' split
                                                                            all_goals rfl
@[simp] theorem choose_inHand (x : Link) : x.choose.inHand = x.inHand := by unfold Link.choose; repeat' split
                                                                            all_goals rfl
@[simp] theorem choose_assembly (x : Link) : x.choose.assembly = x.assembly := by unfold Link.choose; repeat' split
                                                                                  all_goals rfl
@[simp] theorem choose_gapTimer (x : Link) : x.choose.gapTimer = x.gapTimer := by unfold Link.choose; repeat' split
                                                                                  all_goals rfl

end Sys2Proof.Machine
end

