-- ==== Sys2Proof/Laws/Measure.lean ====
section
/-! SUPPORT. Laws/Measure.lean: every task lowers the measure that the fuel of a cascade is computed from, so a cascade ends by itself. -/

namespace Sys2Proof.Machine

/-- Entries in all service queues. -/
def State.queued (s : State) : Nat := (s.lanes.toList.map fun l => l.queue.length).sum
/-- Claims in all claim queues. -/
def State.claimed (s : State) : Nat := (s.utils.toList.map fun x => x.claims.length).sum

theorem potential_eq (s : State) : s.potential = 12 * s.certs.withheld.length + 10 * s.queued + 6 * s.claimed := rfl

theorem sum_map_set {α : Type} (f : α → Nat) (l : List α) (i : Nat) (h : i < l.length) (x : α) :
    ((l.set i x).map f).sum + f l[i] = (l.map f).sum + f x := by
  induction l generalizing i with
  | nil => simp at h
  | cons a l ih =>
    cases i with
    | zero => simp only [List.set_cons_zero, List.map_cons, List.sum_cons, List.getElem_cons_zero]; omega
    | succ i =>
      have := ih i (by simpa using h)
      simp only [List.set_cons_succ, List.map_cons, List.sum_cons, List.getElem_cons_succ]
      omega

theorem queued_setLane (s : State) (b : Bay) (l : Lane) :
    (s.setLane b l).queued + (s.lane b).queue.length = s.queued + l.queue.length := by
  have := sum_map_set (fun l : Lane => l.queue.length) s.lanes.toList b.val (by simp)
    { l with orders := ordersOf (s.entry l.index) l }
  simpa [State.queued, State.setLane, State.lane, Vector.toList_set] using this

theorem queued_amendLane (s : State) (b : Bay) (l : Lane) :
    (s.amendLane b l).queued + (s.lane b).queue.length = s.queued + l.queue.length := by
  have := sum_map_set (fun l : Lane => l.queue.length) s.lanes.toList b.val (by simp) { l with orders := (s.lane b).orders }
  simpa [State.queued, State.amendLane, State.lane, Vector.toList_set] using this

theorem claimed_setUtil (s : State) (u : UtilId) (x : Util) :
    (s.setUtil u x).claimed + (s.util u).claims.length = s.claimed + x.claims.length := by
  have := sum_map_set (fun x : Util => x.claims.length) s.utils.toList (utilIx u).val (by simp) x
  simpa [State.claimed, State.setUtil, State.util, Vector.toList_set] using this

/-! What the other updates leave of the measure. -/

@[simp] theorem claimed_setLane (s : State) (b : Bay) (l : Lane) : (s.setLane b l).claimed = s.claimed := rfl
@[simp] theorem claimed_amendLane (s : State) (b : Bay) (l : Lane) : (s.amendLane b l).claimed = s.claimed := rfl
@[simp] theorem queued_setUtil (s : State) (u : UtilId) (x : Util) : (s.setUtil u x).queued = s.queued := rfl
@[simp] theorem queued_setPin (s : State) (b : Bay) (i : Option StepIx) : (s.setPin b i).queued = s.queued := rfl
@[simp] theorem claimed_setPin (s : State) (b : Bay) (i : Option StepIx) : (s.setPin b i).claimed = s.claimed := rfl
@[simp] theorem queued_setScan (s : State) (b : Bay) (x : Option Scan) : (s.setScan b x).queued = s.queued := rfl
@[simp] theorem claimed_setScan (s : State) (b : Bay) (x : Option Scan) : (s.setScan b x).claimed = s.claimed := rfl
@[simp] theorem queued_setResidue (s : State) (b : Bay) (m : ResidueMap) : (s.setResidue b m).queued = s.queued := rfl
@[simp] theorem claimed_setResidue (s : State) (b : Bay) (m : ResidueMap) : (s.setResidue b m).claimed = s.claimed := rfl
@[simp] theorem queued_modRecord (s : State) (b : Bay) (k : Nat) (f : Comp → Comp) : (s.modRecord b k f).queued = s.queued := rfl
@[simp] theorem claimed_modRecord (s : State) (b : Bay) (k : Nat) (f : Comp → Comp) : (s.modRecord b k f).claimed = s.claimed := rfl
@[simp] theorem queued_modServed (s : State) (b : Bay) (f : Comp → Comp) : (s.modServed b f).queued = s.queued := by
  simp [State.queued]
@[simp] theorem claimed_modServed (s : State) (b : Bay) (f : Comp → Comp) : (s.modServed b f).claimed = s.claimed := by
  simp [State.claimed]
@[simp] theorem queued_raiseBay (s : State) (b : Bay) (e : Event) : (s.raiseBay b e).queued = s.queued := rfl
@[simp] theorem claimed_raiseBay (s : State) (b : Bay) (e : Event) : (s.raiseBay b e).claimed = s.claimed := rfl
@[simp] theorem queued_raiseYard (s : State) (e : Event) : (s.raiseYard e).queued = s.queued := rfl
@[simp] theorem claimed_raiseYard (s : State) (e : Event) : (s.raiseYard e).claimed = s.claimed := rfl
@[simp] theorem queued_setCerts (s : State) (u : CertUnit) : (s.setCerts u).queued = s.queued := rfl
@[simp] theorem claimed_setCerts (s : State) (u : CertUnit) : (s.setCerts u).claimed = s.claimed := rfl
@[simp] theorem queued_countFree (s : State) : s.countFree.queued = s.queued := rfl
@[simp] theorem claimed_countFree (s : State) : s.countFree.claimed = s.claimed := rfl

theorem insertClaim_length (c : Claim) (q : List Claim) : (insertClaim c q).length = q.length + 1 := by
  induction q with
  | nil => rfl
  | cons x xs ih => unfold insertClaim; split <;> simp [ih]

theorem drop_claims_length (x : Util) (b : Bay) : (x.drop b).claims.length ≤ x.claims.length := List.length_filter_le _ _
theorem place_claims_length (x : Util) (b : Bay) (urgent : Bool) : (x.place b urgent).claims.length = x.claims.length + 1 :=
  insertClaim_length _ _

/-- A list of tasks' weight. -/
def weights (ts : List Task) : Nat := (ts.map Task.weight).sum

@[simp] theorem weights_nil : weights [] = 0 := rfl
@[simp] theorem weights_cons (t : Task) (ts : List Task) : weights (t :: ts) = t.weight + weights ts := by simp [weights]
@[simp] theorem weights_append (ts us : List Task) : weights (ts ++ us) = weights ts + weights us := by simp [weights]

theorem fuel_eq (s : State) (ts : List Task) : s.fuel ts = s.potential + weights ts := rfl

/-! The shared operations of the certificate unit. -/

theorem judgeBacklog_leaves (s : State) :
    s.judgeBacklog.certs.withheld = s.certs.withheld ∧ s.judgeBacklog.queued = s.queued ∧ s.judgeBacklog.claimed = s.claimed := by
  unfold State.judgeBacklog; dsimp only; split <;> simp
theorem enterAuditHold_leaves (s : State) (spent : Bool) (n : Nat) :
    (s.enterAuditHold spent n).certs.withheld = s.certs.withheld ∧ (s.enterAuditHold spent n).queued = s.queued ∧
      (s.enterAuditHold spent n).claimed = s.claimed := by
  unfold State.enterAuditHold; simp
theorem countIssue_leaves (s : State) (n : Nat) :
    (s.countIssue n).certs.withheld = s.certs.withheld ∧ (s.countIssue n).queued = s.queued ∧
      (s.countIssue n).claimed = s.claimed := by
  unfold State.countIssue; dsimp only
  split
  · simp
  · split
    · simpa using enterAuditHold_leaves (s.setCerts { s.certs with counter := satAdd Config.max8 s.certs.counter 1 }) false n
    · split
      · simpa using enterAuditHold_leaves (s.setCerts { s.certs with counter := satAdd Config.max8 s.certs.counter 1 }) true n
      · simp
theorem markCertified_queued (s : State) (n : Nat) (r : Comp) :
    (s.markCertified n r).certs.withheld = s.certs.withheld ∧ (s.markCertified n r).queued ≤ s.queued + 1 ∧
      (s.markCertified n r).claimed = s.claimed := by
  unfold State.markCertified; dsimp only
  split
  · unfold State.appendEntry
    have := queued_setLane (s.modRecord r.bay r.index fun x => { x with st := .certified, cert := some n }) r.bay
      { (s.modRecord r.bay r.index fun x => { x with st := .certified, cert := some n }).lane r.bay with
        queue := ((s.modRecord r.bay r.index fun x => { x with st := .certified, cert := some n }).lane r.bay).queue ++
          [{ index := r.index, kind := .fill }] }
    simp only [lane_modRecord, List.length_append, List.length_singleton, queued_modRecord] at this
    refine ⟨by simp, ?_, by simp⟩
    simp only [lane_modRecord]
    omega
  · simp
/-- An issue leaves the withheld list and adds at most one entry to one queue. -/
theorem issueTo_queued (s : State) (n : Nat) (r : Comp) (f : Bool) :
    (s.issueTo n r f).certs.withheld = s.certs.withheld ∧ (s.issueTo n r f).queued ≤ s.queued + 1 ∧
      (s.issueTo n r f).claimed = s.claimed := by
  unfold State.issueTo
  have h1 := countIssue_leaves (((s.logCert n r f).markCertified n r).raiseBay r.bay (.certIssued r.index n r.achieved)).judgeBacklog n
  have h2 := judgeBacklog_leaves (((s.logCert n r f).markCertified n r).raiseBay r.bay (.certIssued r.index n r.achieved))
  have h3 := markCertified_queued (s.logCert n r f) n r
  have h4 : (s.logCert n r f).certs.withheld = s.certs.withheld ∧ (s.logCert n r f).queued = s.queued ∧
      (s.logCert n r f).claimed = s.claimed := ⟨rfl, rfl, rfl⟩
  simp only [certs_raiseBay, queued_raiseBay, claimed_raiseBay] at h2
  refine ⟨?_, ?_, ?_⟩
  · rw [h1.1, h2.1, h3.1, h4.1]
  · rw [h1.2.1, h2.2.1]; omega
  · rw [h1.2.2, h2.2.2, h3.2.2, h4.2.2]
theorem withhold_queued (s : State) (b : Bay) (k : Nat) (f : Bool) :
    (s.withhold b k f).certs.withheld.length = s.certs.withheld.length + 1 ∧ (s.withhold b k f).queued = s.queued ∧
      (s.withhold b k f).claimed = s.claimed := by
  unfold State.withhold; dsimp only
  split
  · have := enterAuditHold_leaves ((s.setCerts { s.certs with withheld := s.certs.withheld ++
      [(⟨b, k, f⟩ : Withheld)] }).modRecord b k fun x => { x with st := .awaitCert }) true Config.max32
    refine ⟨by rw [this.1]; simp, by rw [this.2.1]; simp, by rw [this.2.2]; simp⟩
  · simp

/-- A release answers at most one judgement and adds no claim. -/
theorem release_measure (s : State) (b : Bay) :
    (s.release b).1.certs = s.certs ∧ (s.release b).1.queued = s.queued ∧ (s.release b).1.claimed ≤ s.claimed ∧
      weights (s.release b).2 ≤ 1 := by
  unfold State.release
  split
  · simp
  · next u _ =>
    have h := claimed_setUtil s u ((s.util u).drop b)
    have k := drop_claims_length (s.util u) b
    refine ⟨rfl, rfl, ?_, by simp [Task.weight]⟩
    dsimp only
    omega

/-- Setting a lane whose queue is the one it had changes no part of the measure. -/
theorem queued_setLane_same (s : State) (b : Bay) (l : Lane) (h : l.queue = (s.lane b).queue) : (s.setLane b l).queued = s.queued := by
  have := queued_setLane s b l
  rw [h] at this; omega
/-- Nor does amending it. -/
theorem queued_amendLane_same (s : State) (b : Bay) (l : Lane) (h : l.queue = (s.lane b).queue) :
    (s.amendLane b l).queued = s.queued := by
  have := queued_amendLane s b l
  rw [h] at this; omega

theorem potential_goNext (s : State) (b : Bay) (l : Lane) (h : l.queue = (s.lane b).queue) :
    (s.goNext b l).certs.withheld = s.certs.withheld ∧ (s.goNext b l).queued = s.queued ∧ (s.goNext b l).claimed = s.claimed := by
  unfold State.goNext State.nextOf; dsimp only
  split
  · exact ⟨rfl, queued_amendLane_same _ _ _ h, rfl⟩
  · exact ⟨rfl, queued_amendLane_same s.countFree _ _ h, rfl⟩

theorem afterIssue_weight (s : State) (b : Bay) : weights (s.afterIssue b) ≤ 1 := by
  unfold State.afterIssue; split <;> simp [Task.weight]

theorem queue_le_queued (s : State) (b : Bay) : (s.lane b).queue.length ≤ s.queued := by
  have := queued_setLane s b { s.lane b with queue := [] }
  simp only [List.length_nil] at this
  omega
theorem claims_le_claimed (s : State) (u : UtilId) : (s.util u).claims.length ≤ s.claimed := by
  have := claimed_setUtil s u { s.util u with claims := [] }
  simp only [List.length_nil] at this
  omega
theorem queued_setLane_eq (s : State) (b : Bay) (l : Lane) :
    (s.setLane b l).queued = s.queued + l.queue.length - (s.lane b).queue.length := by
  have := queued_setLane s b l
  omega
theorem claimed_setUtil_eq (s : State) (u : UtilId) (x : Util) :
    (s.setUtil u x).claimed = s.claimed + x.claims.length - (s.util u).claims.length := by
  have := claimed_setUtil s u x
  omega

/-- What a task answers lies below a bound. -/
def Below (n : Nat) (x : State × List Task) : Prop :=
  12 * x.1.certs.withheld.length + 10 * x.1.queued + 6 * x.1.claimed + weights x.2 < n

/-- The measure of a state with a weight beside it. -/
def State.under (s : State) (w : Nat) : Nat := 12 * s.certs.withheld.length + 10 * s.queued + 6 * s.claimed + w

theorem below_of {s : State} {x : State × List Task} {w : Nat} (hw : x.1.certs.withheld.length ≤ s.certs.withheld.length)
    (hq : x.1.queued ≤ s.queued) (hc : x.1.claimed ≤ s.claimed) (ht : weights x.2 < w) : Below (s.under w) x := by
  unfold Below State.under; omega

/-- A lane rewritten with the queue it has, over a state of the same queues. -/
theorem below_setLane {s t : State} {b : Bay} {l : Lane} {ts : List Task} {w : Nat}
    (hw : t.certs.withheld.length ≤ s.certs.withheld.length) (hq : t.queued ≤ s.queued) (hc : t.claimed ≤ s.claimed)
    (hl : l.queue = (t.lane b).queue) (ht : weights ts < w) : Below (s.under w) (t.setLane b l, ts) :=
  below_of (by simpa using hw) (by dsimp only; rw [queued_setLane_same t b l hl]; exact hq) (by simpa using hc) ht

/-- A lane amended with the queue it has, over a state of the same queues. -/
theorem below_amendLane {s t : State} {b : Bay} {l : Lane} {ts : List Task} {w : Nat}
    (hw : t.certs.withheld.length ≤ s.certs.withheld.length) (hq : t.queued ≤ s.queued) (hc : t.claimed ≤ s.claimed)
    (hl : l.queue = (t.lane b).queue) (ht : weights ts < w) : Below (s.under w) (t.amendLane b l, ts) :=
  below_of (by simpa using hw) (by dsimp only; rw [queued_amendLane_same t b l hl]; exact hq) (by simpa using hc) ht

theorem measure_judge (u : UtilId) (s : State) : Below (s.under 1) (actJudge u s) := by
  have h := claims_le_claimed s u
  unfold actJudge; dsimp only
  split
  · exact below_of le_rfl le_rfl le_rfl (by simp)
  · next c rest hc =>
    rw [hc, List.length_cons] at h
    split
    · simp only [Below, State.under, claimed_setUtil_eq, certs_setUtil, queued_setUtil, weights_cons, weights_nil, Task.weight, hc,
        List.length_cons]
      omega
    · exact below_of le_rfl le_rfl le_rfl (by simp)

theorem measure_granted (b : Bay) (s : State) : Below (s.under 5) (actGranted b s) := by
  unfold actGranted; dsimp only
  generalize s.lanceOk b = ok
  split <;> cases ok <;> simp only [Bool.false_eq_true, if_false, if_true]
  · exact below_of le_rfl le_rfl le_rfl (by simp [Task.weight])
  · exact below_setLane le_rfl le_rfl le_rfl rfl (by simp)
  · exact below_of le_rfl le_rfl le_rfl (by simp [Task.weight])
  · exact below_setLane le_rfl le_rfl le_rfl rfl (by simp)

theorem measure_back (u : UtilId) (s : State) : Below (s.under 1) (actBack u s) := by
  have h := claims_le_claimed s u
  simp only [actBack, Below, State.under, claimed_raiseYard, claimed_setUtil_eq, certs_raiseYard, certs_setUtil, queued_raiseYard,
    queued_setUtil, weights_nil]
  omega

theorem measure_takeWash (s : State) (b : Bay) (e : QEntry) (rest : List QEntry) (hq : (s.lane b).queue = e :: rest) :
    Below (s.under 1) (s.takeWash b e.index rest) := by
  have h := queue_le_queued s b
  rw [hq, List.length_cons] at h
  unfold State.takeWash State.beginSeating; dsimp only
  split <;>
    (simp only [Below, State.under, queued_setLane_eq, certs_setLane, certs_setResidue, certs_modRecord, claimed_setLane,
      claimed_setResidue, claimed_modRecord, queued_setResidue, queued_modRecord, lane_setResidue, lane_modRecord, hq,
      List.length_cons, weights_cons, weights_nil, Task.weight]
     omega)

theorem measure_takeFill (s : State) (b : Bay) (e : QEntry) (rest : List QEntry) (hq : (s.lane b).queue = e :: rest) :
    Below (s.under 1) (s.takeFill b e.index rest) := by
  have h := queue_le_queued s b
  rw [hq, List.length_cons] at h
  unfold State.takeFill State.beginSeating; dsimp only
  repeat' split
  all_goals
    simp only [Below, State.under, queued_setLane_eq, certs_setLane, certs_modRecord, claimed_setLane, claimed_modRecord,
      queued_modRecord, lane_modRecord, certs_raiseBay, queued_raiseBay, claimed_raiseBay, hq, List.length_cons, weights_cons,
      weights_nil, Task.weight]
    omega

theorem measure_idle (b : Bay) (s : State) : Below (s.under 1) (actIdle b s) := by
  unfold actIdle; dsimp only
  split
  · split
    · exact below_of le_rfl le_rfl le_rfl (by simp)
    · next e rest hq =>
      split
      · split
        · exact below_of le_rfl le_rfl le_rfl (by simp)
        · exact measure_takeWash s b e rest hq
      · exact measure_takeFill s b e rest hq
  · exact below_of le_rfl le_rfl le_rfl (by simp)

theorem measure_fetch (b : Bay) (s : State) : Below (s.under 9) (actFetch b s) := by
  unfold actFetch; dsimp only
  generalize hy : (if (s.lane b).fetched = 0 then (s.setPin b (some (s.lane b).index)).modServed b
        fun r => { r with dirty := none } else s.setPin b (some (s.lane b).index)) = y
  have hy : y.certs = s.certs ∧ y.queued = s.queued ∧ y.claimed = s.claimed ∧ y.lane b = s.lane b := by
    subst hy; split <;> simp
  have h1 : y.certs.withheld.length ≤ s.certs.withheld.length := by rw [hy.1]
  have h4 : (s.lane b).queue = (y.lane b).queue := by rw [hy.2.2.2]
  split
  · exact below_of le_rfl le_rfl le_rfl (by simp [Task.weight])
  split
  · exact below_amendLane h1 hy.2.1.le hy.2.2.1.le h4 (by simp [Task.weight])
  split
  · exact below_setLane h1 hy.2.1.le hy.2.2.1.le h4 (by simp [Task.weight])
  · exact below_setLane h1 hy.2.1.le hy.2.2.1.le h4 (by simp [Task.weight])
  · split
    · exact below_setLane h1 hy.2.1.le hy.2.2.1.le h4 (by simp)
    · exact below_amendLane h1 hy.2.1.le hy.2.2.1.le h4 (by simp [Task.weight])
  · split
    · exact below_setLane (t := y.setScan b _) h1 hy.2.1.le hy.2.2.1.le h4 (by simp)
    · exact below_amendLane h1 hy.2.1.le hy.2.2.1.le h4 (by simp [Task.weight])
  · exact below_amendLane h1 hy.2.1.le hy.2.2.1.le h4 (by simp [Task.weight])

theorem measure_claim (b : Bay) (u : UtilId) (s : State) : Below (s.under 8) (actClaim b u s) := by
  have h := claims_le_claimed s u
  simp only [actClaim, Below, State.under, claimed_setUtil_eq, certs_setUtil, queued_setUtil, place_claims_length, weights_cons,
    weights_nil, Task.weight]
  omega

theorem measure_fillWait (b : Bay) (s : State) : Below (s.under 9) (actFillWait b s) := by
  unfold actFillWait; dsimp only
  repeat' split
  all_goals exact below_setLane le_rfl le_rfl le_rfl rfl (by simp [Task.weight])

/-- A release followed by one more task. -/
theorem measure_release (b : Bay) (s : State) (t : Task) (w : Nat) (hw : t.weight + 1 < w) :
    Below (s.under w) ((s.release b).1, (s.release b).2 ++ [t]) := by
  have h := release_measure s b
  refine below_of (by simp [h.1]) h.2.1.le h.2.2.1 ?_
  simp only [weights_append, weights_cons, weights_nil]
  omega

theorem measure_aborted (b : Bay) (r : Reason) (s : State) : Below (s.under 2) (actAborted b r s) := by
  refine below_of (by simp [actAborted]) ?_ (by simp [actAborted]) (by simp [actAborted, Task.weight])
  simp only [actAborted, queued_raiseBay]
  rw [queued_setLane_same _ _ _ (by simp [Lane.toIdle])]
  simp

theorem measure_fillEnded (b : Bay) (e : FillEnd) (s : State) : Below (s.under 2) (actFillEnded b e s) := by
  unfold actFillEnded; dsimp only
  split
  · exact below_setLane (by simp) (by simp) (by simp) (by simp [Lane.toIdle]) (by simp [Task.weight])
  · have hx : ∀ (t : State) (r : Comp), (t.raiseFillExtra b e r.index r).certs = t.certs ∧
        (t.raiseFillExtra b e r.index r).queued = t.queued ∧ (t.raiseFillExtra b e r.index r).claimed = t.claimed ∧
          (t.raiseFillExtra b e r.index r).lane b = t.lane b := by
      intro t r; unfold State.raiseFillExtra; cases e <;> simp
    refine below_setLane ?_ ?_ ?_ ?_ (by simp [Task.weight])
    · simp [hx]
    · simp [hx]
    · simp [hx]
    · simp [hx, Lane.toIdle]

theorem measure_stepEnded (b : Bay) (s : State) : Below (s.under 26) (actStepEnded b s) := by
  unfold actStepEnded; dsimp only
  generalize s.lanceOk b = ok
  generalize (s.stepOf b).drainAfter = drain
  cases drain <;> cases ok <;> simp only [Bool.false_eq_true, if_false, if_true]
  · exact below_of (by simp) (by simp) (by simp) (by simp [Task.weight])
  · exact below_of (by simp) (by simp) (by simp) (by simp [Task.weight])
  · exact below_of (by simp) (by simp) (by simp) (by simp [Task.weight])
  · exact below_setLane (by simp) (by simp) (by simp) (by simp) (by simp)

theorem measure_proceed (b : Bay) (s : State) : Below (s.under 25) (actProceed b s) := by
  unfold actProceed; dsimp only
  repeat' split
  · exact below_of le_rfl le_rfl le_rfl (by simp [Task.weight])
  · exact below_setLane le_rfl le_rfl le_rfl rfl (by simp)
  · have h := potential_goNext s b (s.lane b) rfl
    exact below_of (by rw [h.1]) h.2.1.le h.2.2.le (by simp [Task.weight])

theorem measure_programEnd (b : Bay) (s : State) : Below (s.under 24) (actProgramEnd b s) := by
  unfold actProgramEnd; dsimp only
  repeat' split
  all_goals exact below_of (by simp) (by simp) (by simp) (by simp [Task.weight])

theorem measure_certify (b : Bay) (k : Nat) (f : Bool) (s : State) : Below (s.under 13) (actCertify b k f s) := by
  have hw := withhold_queued s b k f
  unfold actCertify
  split
  · exact below_of le_rfl le_rfl le_rfl (by simp)
  · next r _ =>
    split
    · simp only [Below, State.under, weights_nil]; omega
    · next n _ =>
      split
      · have h := issueTo_queued s n r f
        have k := afterIssue_weight s b
        simp only [Below, State.under, h.1]
        omega
      · simp only [Below, State.under, weights_nil]; omega

theorem measure_drain (s : State) : Below (s.under 1) (actDrain s) := by
  unfold actDrain; dsimp only
  split
  · next w rest n hw _ =>
    split
    · split
      · simp only [Below, State.under, certs_setCerts, queued_setCerts, claimed_setCerts, hw, List.length_cons, weights_cons,
          weights_nil, Task.weight]
        omega
      · next r _ =>
        have h := issueTo_queued (s.setCerts { s.certs with withheld := rest }) n r w.referral
        have k := afterIssue_weight (s.setCerts { s.certs with withheld := rest }) w.bay
        dsimp only at k
        simp only [queued_setCerts, claimed_setCerts, certs_setCerts] at h
        simp only [Below, State.under, h.1, weights_append, weights_cons, weights_nil, hw, List.length_cons, Task.weight]
        omega
    · exact below_of le_rfl le_rfl le_rfl (by simp)
  · exact below_of le_rfl le_rfl le_rfl (by simp)

theorem measure_hold (b : Bay) (c : Cause) (s : State) : Below (s.under 2) (actHold b c s) := by
  unfold actHold; dsimp only
  split
  · exact below_of le_rfl le_rfl le_rfl (by simp)
  · split
    · generalize hL : ({ s.lane b with holds := (s.lane b).holds.put c true, ret := some (s.lane b).st, st := .held } : Lane) = L
      have hq : (s.setLane b L).queued = s.queued := queued_setLane_same s b L (by subst hL; rfl)
      have h := release_measure (s.setLane b L) b
      simp only [certs_setLane, claimed_setLane, hq] at h
      exact below_of (by rw [h.1]) h.2.1.le h.2.2.1 (by omega)
    · exact below_setLane le_rfl le_rfl le_rfl rfl (by simp)

theorem measure_resume (b : Bay) (s : State) (l : Lane) (hl : l.queue = (s.lane b).queue) : Below (s.under 10) (s.resume b l) := by
  have hc : ∀ (st : LaneState) (n : Nat), Below (s.under 10) (s.resumeChecked b l st n) := by
    intro st n
    unfold State.resumeChecked
    split
    · exact below_setLane le_rfl le_rfl le_rfl hl (by simp)
    · exact below_setLane le_rfl le_rfl le_rfl hl (by simp [Task.weight])
  have hw : ∀ l' : Lane, l'.queue = l.queue → ∀ ts : List Task, weights ts < 10 → Below (s.under 10) (s.setLane b l', ts) :=
    fun l' h ts ht => below_setLane le_rfl le_rfl le_rfl (h.trans hl) ht
  unfold State.resume; dsimp only
  split
  · split
    · exact hw { l with st := .seating, ret := none, timer := 0 } rfl _ (by split <;> simp [Task.weight])
    · exact hw { l with st := .seating, ret := none, timer := 0 } rfl _ (by simp)
  · exact hc _ _
  · exact hc _ _
  · split
    · have h := potential_goNext s b { l with ret := none, starveRelease := false } hl
      exact below_of (by rw [h.1]) h.2.1.le h.2.2.le (by simp [Task.weight])
    · exact hw { l with st := .starved, ret := none, timer := 0 } rfl _ (by simp)
  · exact hw l rfl _ (by simp)
  · exact hw l rfl _ (by simp)
  · exact hw l rfl _ (by simp)
  all_goals
    split
    · exact hw { l with ret := none } rfl _ (by simp [Task.weight])
    · split
      · exact hw { l with st := .waitResource, ret := none } rfl _ (by simp [Task.weight])
      · exact hc _ _

theorem measure_unhold (b : Bay) (c : Cause) (s : State) : Below (s.under 10) (actUnhold b c s) := by
  unfold actUnhold; dsimp only
  split
  · split
    · split
      · exact measure_resume b s _ rfl
      · exact below_setLane le_rfl le_rfl le_rfl rfl (by simp [Task.weight])
      · exact below_setLane le_rfl le_rfl le_rfl rfl (by simp)
    · exact below_setLane le_rfl le_rfl le_rfl rfl (by simp)
  · exact below_of le_rfl le_rfl le_rfl (by simp)

/-- Every task lowers the measure, whatever the state. -/
theorem act_measure (t : Task) (s : State) : (act t s).1.potential + weights (act t s).2 < s.potential + t.weight := by
  have h : Below (s.under t.weight) (act t s) := by
    cases t <;> simp only [act, Task.weight]
    case judge u => exact measure_judge u s
    case granted b => exact measure_granted b s
    case back u => exact measure_back u s
    case idle b => exact measure_idle b s
    case fetch b => exact measure_fetch b s
    case claim b u => exact measure_claim b u s
    case fillWait b => exact measure_fillWait b s
    case abort b r => exact measure_release b s _ 4 (by simp [Task.weight])
    case aborted b r => exact measure_aborted b r s
    case endFill b e => exact measure_release b s _ 4 (by simp [Task.weight])
    case fillEnded b e => exact measure_fillEnded b e s
    case stepEnd b => exact measure_release b s _ 28 (by simp [Task.weight])
    case stepEnded b => exact measure_stepEnded b s
    case proceed b => exact measure_proceed b s
    case programEnd b => exact measure_programEnd b s
    case toIdle b => exact below_setLane le_rfl le_rfl le_rfl rfl (by simp [Task.weight])
    case certify b k f => exact measure_certify b k f s
    case drain => exact measure_drain s
    case hold b c => exact measure_hold b c s
    case unhold b c => exact measure_unhold b c s
    case modeChange l e c => exact below_of (by simp) (by simp) (by simp) (by simp)
  exact h

end Sys2Proof.Machine
end

