-- ==== Sys2Proof/Laws/PerInstr.lean ====
section
/-! SUPPORT. Laws/PerInstr.lean: the family `Framed`, one lemma per row of the table. -/

namespace Sys2Proof.Laws.Framed

open Sys2Proof.Machine

/-- A well-formed row's request can be sent in a frame (R168, R171): its kind is a request's, below 0x40, and its body is 1 to 248
bytes long. A row that carries no request has nothing to show. -/
def Statement (i : Instr) : Prop :=
  i.wf = true → ∀ l t r, asRequest i = some (l, t, r) → r.kind.toNat < 0x40 ∧ 1 ≤ r.body.length ∧ r.body.length ≤ maxBody

/-- Every request kind lies below 0x40 (11.3). -/
theorem kind_small (r : Request) : r.kind.toNat < 0x40 := by cases r <;> exact Nat.le_of_ble_eq_true rfl

theorem steps_length (ss : List RawStep) : (ss.flatMap RawStep.bytes).length = 16 * ss.length := by
  induction ss with
  | nil => rfl
  | cons s ss ih => simp only [List.flatMap_cons, List.length_append, ih, List.length_cons]; simp [RawStep.bytes]; omega

theorem ident (l : LinkId) (tag : Byte) : Statement (.ident l tag) := by
  intro _ l t r e; cases e; exact ⟨kind_small _, Nat.le_of_ble_eq_true rfl, Nat.le_of_ble_eq_true rfl⟩
theorem setMode (l : LinkId) (tag : Byte) (mode : Byte) : Statement (.setMode l tag mode) := by
  intro _ l t r e; cases e; exact ⟨kind_small _, Nat.le_of_ble_eq_true rfl, Nat.le_of_ble_eq_true rfl⟩
theorem restart (l : LinkId) (tag : Byte) : Statement (.restart l tag) := by
  intro _ l t r e; cases e; exact ⟨kind_small _, Nat.le_of_ble_eq_true rfl, Nat.le_of_ble_eq_true rfl⟩
theorem linkSetup (l : LinkId) (tag : Byte) (output showMasked : Byte) (masks : BitVec 16) : Statement (.linkSetup l tag output showMasked masks) := by
  intro _ l t r e; cases e; exact ⟨kind_small _, Nat.le_of_ble_eq_true rfl, Nat.le_of_ble_eq_true rfl⟩
theorem setClock (l : LinkId) (tag : Byte) (clock : BitVec 32) : Statement (.setClock l tag clock) := by
  intro _ l t r e; cases e; exact ⟨kind_small _, Nat.le_of_ble_eq_true rfl, Nat.le_of_ble_eq_true rfl⟩
theorem setTiming (l : LinkId) (tag : Byte) (seat cold drain starve fillStall : Byte) : Statement (.setTiming l tag seat cold drain starve fillStall) := by
  intro _ l t r e; cases e; exact ⟨kind_small _, Nat.le_of_ble_eq_true rfl, Nat.le_of_ble_eq_true rfl⟩
theorem setAudit (l : LinkId) (tag : Byte) (period highWater : Byte) : Statement (.setAudit l tag period highWater) := by
  intro _ l t r e; cases e; exact ⟨kind_small _, Nat.le_of_ble_eq_true rfl, Nat.le_of_ble_eq_true rfl⟩
theorem setCertBase (l : LinkId) (tag : Byte) (number : BitVec 32) : Statement (.setCertBase l tag number) := by
  intro _ l t r e; cases e; exact ⟨kind_small _, Nat.le_of_ble_eq_true rfl, Nat.le_of_ble_eq_true rfl⟩
theorem markTest (l : LinkId) (tag : Byte) (mark : Byte) : Statement (.markTest l tag mark) := by
  intro _ l t r e; cases e; exact ⟨kind_small _, Nat.le_of_ble_eq_true rfl, Nat.le_of_ble_eq_true rfl⟩
theorem markSet (l : LinkId) (tag : Byte) (mark : Byte) : Statement (.markSet l tag mark) := by
  intro _ l t r e; cases e; exact ⟨kind_small _, Nat.le_of_ble_eq_true rfl, Nat.le_of_ble_eq_true rfl⟩
theorem markClear (l : LinkId) (tag : Byte) (mark : Byte) : Statement (.markClear l tag mark) := by
  intro _ l t r e; cases e; exact ⟨kind_small _, Nat.le_of_ble_eq_true rfl, Nat.le_of_ble_eq_true rfl⟩
theorem markFlip (l : LinkId) (tag : Byte) (mark : Byte) : Statement (.markFlip l tag mark) := by
  intro _ l t r e; cases e; exact ⟨kind_small _, Nat.le_of_ble_eq_true rfl, Nat.le_of_ble_eq_true rfl⟩
theorem loadCarryover (l : LinkId) (tag : Byte) (row : Byte) (entries : Vector Byte 16) : Statement (.loadCarryover l tag row entries) := by
  intro _ l t r e; cases e; exact ⟨kind_small _, by simp [Request.body], by simp [Request.body, maxBody]⟩
theorem readCarryover (l : LinkId) (tag : Byte) (row : Byte) : Statement (.readCarryover l tag row) := by
  intro _ l t r e; cases e; exact ⟨kind_small _, Nat.le_of_ble_eq_true rfl, Nat.le_of_ble_eq_true rfl⟩
theorem loadVerdict (l : LinkId) (tag : Byte) (first : Byte) (outcomes : List Byte) : Statement (.loadVerdict l tag first outcomes) := by
  intro h l t r e; cases e
  exact ⟨kind_small _, Nat.le_add_left 1 (outcomes.length + 1), of_decide_eq_true h⟩
theorem readVerdict (l : LinkId) (tag : Byte) (first count : Byte) : Statement (.readVerdict l tag first count) := by
  intro _ l t r e; cases e; exact ⟨kind_small _, Nat.le_of_ble_eq_true rfl, Nat.le_of_ble_eq_true rfl⟩
theorem stepWindow (l : LinkId) (tag : Byte) (first last : Byte) : Statement (.stepWindow l tag first last) := by
  intro _ l t r e; cases e; exact ⟨kind_small _, Nat.le_of_ble_eq_true rfl, Nat.le_of_ble_eq_true rfl⟩
theorem stepWrite (l : LinkId) (tag : Byte) (steps : List RawStep) : Statement (.stepWrite l tag steps) := by
  intro h l t r e; cases e
  have hl : (Request.stepWrite steps).body.length = 16 * steps.length + 1 :=
    congrArg (· + 1) (steps_length steps)
  exact ⟨kind_small _, by omega, hl ▸ of_decide_eq_true h⟩
theorem stepRead (l : LinkId) (tag : Byte) (index count : Byte) : Statement (.stepRead l tag index count) := by
  intro _ l t r e; cases e; exact ⟨kind_small _, Nat.le_of_ble_eq_true rfl, Nat.le_of_ble_eq_true rfl⟩
theorem setUtility (l : LinkId) (tag : Byte) (utility capacity offline cargo : Byte) : Statement (.setUtility l tag utility capacity offline cargo) := by
  intro _ l t r e; cases e; exact ⟨kind_small _, Nat.le_of_ble_eq_true rfl, Nat.le_of_ble_eq_true rfl⟩
theorem utilityStatus (l : LinkId) (tag : Byte) : Statement (.utilityStatus l tag) := by
  intro _ l t r e; cases e; exact ⟨kind_small _, Nat.le_of_ble_eq_true rfl, Nat.le_of_ble_eq_true rfl⟩
theorem admitVisit (l : LinkId) (tag : Byte) (bay : Byte) (fleet : BitVec 24) (priority : Byte) (priors : List Byte) : Statement (.admitVisit l tag bay fleet priority priors) := by
  intro h l t r e; cases e
  exact ⟨kind_small _, Nat.le_add_left 1 (priors.length + 5), of_decide_eq_true h⟩
theorem depart (l : LinkId) (tag : Byte) (bay : Byte) : Statement (.depart l tag bay) := by
  intro _ l t r e; cases e; exact ⟨kind_small _, Nat.le_of_ble_eq_true rfl, Nat.le_of_ble_eq_true rfl⟩
theorem bayClear (l : LinkId) (tag : Byte) (bay : Byte) : Statement (.bayClear l tag bay) := by
  intro _ l t r e; cases e; exact ⟨kind_small _, Nat.le_of_ble_eq_true rfl, Nat.le_of_ble_eq_true rfl⟩
theorem assign (l : LinkId) (tag : Byte) (bay index head chainMode last programClass : Byte) : Statement (.assign l tag bay index head chainMode last programClass) := by
  intro _ l t r e; cases e; exact ⟨kind_small _, Nat.le_of_ble_eq_true rfl, Nat.le_of_ble_eq_true rfl⟩
theorem extend (l : LinkId) (tag : Byte) (bay index newLast : Byte) : Statement (.extend l tag bay index newLast) := by
  intro _ l t r e; cases e; exact ⟨kind_small _, Nat.le_of_ble_eq_true rfl, Nat.le_of_ble_eq_true rfl⟩
theorem abort (l : LinkId) (tag : Byte) (bay : Byte) : Statement (.abort l tag bay) := by
  intro _ l t r e; cases e; exact ⟨kind_small _, Nat.le_of_ble_eq_true rfl, Nat.le_of_ble_eq_true rfl⟩
theorem hold (l : LinkId) (tag : Byte) (bay : Byte) : Statement (.hold l tag bay) := by
  intro _ l t r e; cases e; exact ⟨kind_small _, Nat.le_of_ble_eq_true rfl, Nat.le_of_ble_eq_true rfl⟩
theorem resume (l : LinkId) (tag : Byte) (bay : Byte) : Statement (.resume l tag bay) := by
  intro _ l t r e; cases e; exact ⟨kind_small _, Nat.le_of_ble_eq_true rfl, Nat.le_of_ble_eq_true rfl⟩
theorem orderFill (l : LinkId) (tag : Byte) (bay index cargo : Byte) (target : BitVec 16) : Statement (.orderFill l tag bay index cargo target) := by
  intro _ l t r e; cases e; exact ⟨kind_small _, Nat.le_of_ble_eq_true rfl, Nat.le_of_ble_eq_true rfl⟩
theorem cancelFill (l : LinkId) (tag : Byte) (bay index : Byte) : Statement (.cancelFill l tag bay index) := by
  intro _ l t r e; cases e; exact ⟨kind_small _, Nat.le_of_ble_eq_true rfl, Nat.le_of_ble_eq_true rfl⟩
theorem ruleReferral (l : LinkId) (tag : Byte) (bay index ruling cls : Byte) : Statement (.ruleReferral l tag bay index ruling cls) := by
  intro _ l t r e; cases e; exact ⟨kind_small _, Nat.le_of_ble_eq_true rfl, Nat.le_of_ble_eq_true rfl⟩
theorem certRead (l : LinkId) (tag : Byte) (count : Byte) : Statement (.certRead l tag count) := by
  intro _ l t r e; cases e; exact ⟨kind_small _, Nat.le_of_ble_eq_true rfl, Nat.le_of_ble_eq_true rfl⟩
theorem certRetire (l : LinkId) (tag : Byte) (k : Byte) : Statement (.certRetire l tag k) := by
  intro _ l t r e; cases e; exact ⟨kind_small _, Nat.le_of_ble_eq_true rfl, Nat.le_of_ble_eq_true rfl⟩
theorem auditRelease (l : LinkId) (tag : Byte) : Statement (.auditRelease l tag) := by
  intro _ l t r e; cases e; exact ⟨kind_small _, Nat.le_of_ble_eq_true rfl, Nat.le_of_ble_eq_true rfl⟩
theorem bayStatus (l : LinkId) (tag : Byte) (bay : Byte) : Statement (.bayStatus l tag bay) := by
  intro _ l t r e; cases e; exact ⟨kind_small _, Nat.le_of_ble_eq_true rfl, Nat.le_of_ble_eq_true rfl⟩
theorem compartmentStatus (l : LinkId) (tag : Byte) (bay index : Byte) : Statement (.compartmentStatus l tag bay index) := by
  intro _ l t r e; cases e; exact ⟨kind_small _, Nat.le_of_ble_eq_true rfl, Nat.le_of_ble_eq_true rfl⟩
theorem mapRead (l : LinkId) (tag : Byte) (bay firstRing lastRing firstSector lastSector : Byte) : Statement (.mapRead l tag bay firstRing lastRing firstSector lastSector) := by
  intro _ l t r e; cases e; exact ⟨kind_small _, Nat.le_of_ble_eq_true rfl, Nat.le_of_ble_eq_true rfl⟩
theorem pendingRead (l : LinkId) (tag : Byte) (scope : Byte) : Statement (.pendingRead l tag scope) := by
  intro _ l t r e; cases e; exact ⟨kind_small _, Nat.le_of_ble_eq_true rfl, Nat.le_of_ble_eq_true rfl⟩
theorem pendingClear (l : LinkId) (tag : Byte) (scope : Byte) (kinds : List Byte) : Statement (.pendingClear l tag scope kinds) := by
  intro h l t r e; cases e
  exact ⟨kind_small _, Nat.le_add_left 1 (kinds.length + 1), of_decide_eq_true h⟩
theorem unknownKind (l : LinkId) (tag : Byte) (kind : Byte) (body : List Byte) : Statement (.unknownKind l tag kind body) := by
  intro _ l t r e; cases e
theorem reject (l : LinkId) (error : FrameError) : Statement (.reject l error) := by
  intro _ l t r e; cases e
theorem gap (l : LinkId) : Statement (.gap l) := by
  intro _ l t r e; cases e
theorem frameSent (l : LinkId) : Statement (.frameSent l) := by
  intro _ l t r e; cases e
theorem bayReport (b : Bay) (flow fill temp : Byte) : Statement (.bayReport b flow fill temp) := by
  intro _ l t r e; cases e
theorem seated (b : Bay) (index : Byte) : Statement (.seated b index) := by
  intro _ l t r e; cases e
theorem lifted (b : Bay) : Statement (.lifted b) := by
  intro _ l t r e; cases e
theorem drainClear (b : Bay) : Statement (.drainClear b) := by
  intro _ l t r e; cases e
theorem highLevel (b : Bay) : Statement (.highLevel b) := by
  intro _ l t r e; cases e
theorem probe (b : Bay) (grade : Byte) : Statement (.probe b grade) := by
  intro _ l t r e; cases e
theorem bayPortTimeout (b : Bay) : Statement (.bayPortTimeout b) := by
  intro _ l t r e; cases e
theorem bayOrdersSent (b : Bay) : Statement (.bayOrdersSent b) := by
  intro _ l t r e; cases e
theorem stopLineRise : Statement (.stopLineRise) := by
  intro _ l t r e; cases e
theorem stopLineFall : Statement (.stopLineFall) := by
  intro _ l t r e; cases e
theorem faultLineRise (u : UtilId) : Statement (.faultLineRise u) := by
  intro _ l t r e; cases e
theorem faultLineFall (u : UtilId) : Statement (.faultLineFall u) := by
  intro _ l t r e; cases e
theorem minuteTick : Statement (.minuteTick) := by
  intro _ l t r e; cases e
theorem resetLineAssert : Statement (.resetLineAssert) := by
  intro _ l t r e; cases e
theorem resetLineRelease (straps : Fin 8) : Statement (.resetLineRelease straps) := by
  intro _ l t r e; cases e
theorem takeWashEntry (b : Bay) : Statement (.takeWashEntry b) := by
  intro _ l t r e; cases e
theorem takeFillEntry (b : Bay) : Statement (.takeFillEntry b) := by
  intro _ l t r e; cases e
theorem utilityGrant (u : UtilId) : Statement (.utilityGrant u) := by
  intro _ l t r e; cases e
theorem seatTimeout (b : Bay) (flow fill temp : Byte) : Statement (.seatTimeout b flow fill temp) := by
  intro _ l t r e; cases e
theorem noFlow (b : Bay) (flow fill temp : Byte) : Statement (.noFlow b flow fill temp) := by
  intro _ l t r e; cases e
theorem coldSupply (b : Bay) (flow fill temp : Byte) : Statement (.coldSupply b flow fill temp) := by
  intro _ l t r e; cases e
theorem drainStuck (b : Bay) (flow fill temp : Byte) : Statement (.drainStuck b flow fill temp) := by
  intro _ l t r e; cases e
theorem underrun (b : Bay) (flow fill temp : Byte) : Statement (.underrun b flow fill temp) := by
  intro _ l t r e; cases e
theorem scanStall (b : Bay) (flow fill temp : Byte) : Statement (.scanStall b flow fill temp) := by
  intro _ l t r e; cases e
theorem fillStall (b : Bay) (flow fill temp : Byte) : Statement (.fillStall b flow fill temp) := by
  intro _ l t r e; cases e
theorem stepEnd (b : Bay) (flow fill temp : Byte) : Statement (.stepEnd b flow fill temp) := by
  intro _ l t r e; cases e
theorem fillComplete (b : Bay) (flow fill temp : Byte) : Statement (.fillComplete b flow fill temp) := by
  intro _ l t r e; cases e
theorem frameByteReceived (l : LinkId) (byte : Byte) : Statement (.frameByteReceived l byte) := by
  intro _ l t r e; cases e
theorem portByteReceived (b : Bay) (byte : Byte) : Statement (.portByteReceived b byte) := by
  intro _ l t r e; cases e

end Sys2Proof.Laws.Framed
end

