-- ==== Sys2Proof/Laws/Settle.lean ====
section
/-! SUPPORT. Laws/Settle.lean: a cascade runs its tasks one after another, since its fuel always suffices. -/

namespace Sys2Proof.Machine

/-- Any two amounts of fuel that suffice end alike. -/
theorem settleFor_enough (n m : Nat) (ts : List Task) (s : State) (hn : s.fuel ts ≤ n) (hm : s.fuel ts ≤ m) :
    settleFor n ts s = settleFor m ts s := by
  induction n generalizing m ts s with
  | zero =>
    cases ts with
    | nil => cases m <;> rfl
    | cons t ts =>
      have h := act_measure t s
      simp only [fuel_eq, weights_cons] at hn
      omega
  | succ n ih =>
    cases ts with
    | nil => cases m <;> rfl
    | cons t ts =>
      have h := act_measure t s
      simp only [fuel_eq, weights_cons] at hn hm
      cases m with
      | zero => omega
      | succ m =>
        exact ih m _ _ (by simp only [fuel_eq, weights_append]; omega) (by simp only [fuel_eq, weights_append]; omega)

@[simp] theorem settle_nil (s : State) : s.settle [] = s := by unfold State.settle; cases s.fuel [] <;> rfl

/-- A task is carried out, then the tasks that follow from it, then those that were waiting. -/
theorem settle_cons (t : Task) (ts : List Task) (s : State) : s.settle (t :: ts) = (act t s).1.settle ((act t s).2 ++ ts) := by
  have h := act_measure t s
  have hf : s.fuel (t :: ts) = (s.fuel (t :: ts) - 1) + 1 := by simp only [fuel_eq, weights_cons]; omega
  have hle : (act t s).1.fuel ((act t s).2 ++ ts) ≤ s.fuel (t :: ts) - 1 := by
    simp only [fuel_eq, weights_cons, weights_append]; omega
  unfold State.settle
  rw [hf]
  exact settleFor_enough _ _ _ _ hle le_rfl

end Sys2Proof.Machine
end

