-- ==== Sys2Proof/Laws/Yard.lean ====
section
/-! SUPPORT. Laws/Yard.lean: a yard with nothing in it is sound, as after the reset line and RESTART. -/

namespace Sys2Proof.Machine

/-- Visits, records, queues, grants, claims, pins and scans all absent, and every lane IDLE: what is said of them holds. -/
theorem emptyYard_sound (s : State) (hv : ∀ b, s.visit b = none) (hr : s.records = [])
    (hl : ∀ b, (s.lane b).st = .idle ∧ (s.lane b).current = none ∧ (s.lane b).service = none ∧ (s.lane b).ret = none ∧
      (s.lane b).queue = [])
    (ho : s.mode = .dormant → ∀ b, (s.lane b).orders = Orders.reset) (hw : s.certs.withheld = [])
    (hu : ∀ u, (s.util u).grants = [] ∧ (s.util u).claims = []) (hp : ∀ b : Bay, s.store.pins[b] = none) (hs : ∀ b, s.scan b = none) :
    s.YardSound where
  visitCount b v h := by simp [hv] at h
  recordsDistinct := by simp [hr]
  recordsOfVisits b k := by simp [hr, hv]
  laneServes b := .inl ⟨(hl b).1, (hl b).2.1, (hl b).2.2.1⟩
  laneStates b := by simp [hl b]
  laneHeld b := by simp [hl b]
  dormant h b := ⟨hv b, (hl b).1, ho h b⟩
  recordServed := by simp [hr]
  achieved := by simp [hr]
  program := by simp [hr]
  certificate := by simp [hr]
  queueDistinct b := by simp [hl b]
  queueRecords b := by simp [hl b]
  queueComplete := by simp [hr]
  withheldDistinct := by simp [hw]
  withheldRecords b k := by simp [hw, hr]
  holdsOne := by simp [hu, allUtils]
  grantStates u := by simp [hu]
  claimStates u := by simp [hu]
  stateHolds b := by simp [hl b]
  pinned b := by simp [hl b, hp]
  scanPresent b := by simp [hl b, hs]
  scanPointer b x h := by simp [hs] at h
  scanStep b x h := by simp [hs] at h

end Sys2Proof.Machine
end

