-- ==== Sys2Proof/Tests/Slice0.lean ====
section
/-! SUPPORT. Tests/Slice0.lean: ill-formed commands that the check refuses, small checks of single steps, and for each obligation a
state and operands that meet the hypotheses of each of its clauses. -/

set_option maxRecDepth 100000

namespace Sys2Proof.Tests

open Sys2Proof.Machine

/-! ## Well-formed commands: each check refuses an ill-formed term -/

/-- Sixteen zero bytes of a descriptor. -/
def rawBlank : RawStep := ⟨0, 0, 0, 0, 0, 0, 0, 0, 0, 0, 0, 0, 0, 0, 0, 0⟩

theorem test_wf_lists_fit_a_frame :
    (Instr.loadVerdict .office 1 0 (List.replicate 246 0)).wf = true ∧ (Instr.loadVerdict .office 1 0 (List.replicate 247 0)).wf = false ∧
    (Instr.stepWrite .office 1 (List.replicate 15 rawBlank)).wf = true ∧
    (Instr.stepWrite .office 1 (List.replicate 16 rawBlank)).wf = false ∧
    (Instr.admitVisit .office 1 1 1 0 (List.replicate 242 0)).wf = true ∧ (Instr.admitVisit .office 1 1 1 0 (List.replicate 243 0)).wf = false ∧
    (Instr.pendingClear .office 1 0 (List.replicate 246 1)).wf = true ∧
    (Instr.pendingClear .office 1 0 (List.replicate 247 1)).wf = false := by decide
theorem test_wf_unknown_kind :
    (Instr.unknownKind .office 1 0x3F [0]).wf = true ∧ (Instr.unknownKind .office 1 0x40 [0]).wf = false ∧
    (Instr.unknownKind .office 1 0x01 [0]).wf = false ∧ (Instr.unknownKind .office 1 0x3F []).wf = false ∧
    (Instr.unknownKind .office 1 0x3F (List.replicate 248 0)).wf = true ∧
    (Instr.unknownKind .office 1 0x3F (List.replicate 249 0)).wf = false := by decide
theorem test_wf_seat_and_grade :
    (Instr.seated 0 0).wf = false ∧ (Instr.seated 0 1).wf = true ∧ (Instr.seated 0 8).wf = true ∧ (Instr.seated 0 9).wf = false ∧
    (Instr.probe 0 7).wf = true ∧ (Instr.probe 0 8).wf = false := by decide
theorem test_wf_temperature :
    (Instr.bayReport 0 0 0 99).wf = true ∧ (Instr.bayReport 0 0 0 100).wf = false ∧ (Instr.seatTimeout 0 0 0 100).wf = false ∧
    (Instr.noFlow 0 0 0 100).wf = false ∧ (Instr.coldSupply 0 0 0 100).wf = false ∧ (Instr.drainStuck 0 0 0 100).wf = false ∧
    (Instr.underrun 0 0 0 100).wf = false ∧ (Instr.scanStall 0 0 0 100).wf = false ∧ (Instr.fillStall 0 0 0 100).wf = false ∧
    (Instr.stepEnd 0 0 0 100).wf = false ∧ (Instr.fillComplete 0 0 0 100).wf = false ∧ (Instr.fillComplete 0 0 0 99).wf = true := by decide

/-! ## States the tests start from -/

/-- The next state, or the state itself where the step gave none. -/
def after (c : Instr) (s : State) : State := match step { s with pending := c :: s.pending } with
  | .next t => t
  | _ => s
/-- The reply body going out on the office link. -/
def reply (c : Instr) (s : State) : Option (List Byte) := match (after c s).office.sending with
  | some (.reply f) => some f.body
  | _ => none
/-- A compartment record of bay 1, index 1, with a BOUNDED program. -/
def rec1 (st : CompState) : Comp :=
  { Comp.fresh 0 1 (some 3) with st := st, program := some { head := 0, chain := .bounded 0, cls := 6 } }
/-- A lane serving compartment 1 by a wash at entry 0, seated there. -/
def washing (st : LaneState) : Lane :=
  { Lane.reset false with st := st, current := some 1, service := some .wash, seated := some 1, index := 0, fetched := 1 }
/-- A lane serving compartment 1 by a fill. -/
def fillingLane (st : LaneState) : Lane := { washing st with service := some .fill }
/-- A yard in RUN with a one-compartment visit in bay 1, its record, its lane, and the entry at index 0. -/
def yard (l : Lane) (r : Comp) (d : Descriptor) : State :=
  { State.reset with
    mode := .run, visits := State.reset.visits.set 0 (some { fleet := 7, urgent := false, count := 1 }), records := [r],
    lanes := State.reset.lanes.set 0 l, store := { StepStore.reset with entries := StepStore.reset.entries.set 0 d } }
/-- A wash yard: the record WASHING, the lane in a state, a descriptor. -/
def washYard (st : LaneState) (d : Descriptor) : State := yard (washing st) (rec1 .washing) d
/-- A fill yard: the record FILLING with an order of 100 litres of class 3. -/
def fillYard (st : LaneState) : State :=
  yard (fillingLane st) { rec1 .filling with order := some { cargo := 3, target := 100 } } .blank
/-- Descriptors of each kind. -/
def aFlush : Descriptor := .flush .hotWater 10 (some 40) (some 2) false false 1
def aBlow : Descriptor := .blow .steam 10 (some 40) false 1
def aSoak : Descriptor := .soak 10 true false 1
def anInspect : Descriptor := .inspect { firstRing := 3, lastRing := 4, firstSector := 5, lastSector := 7 } .sectorDown 2 5 false 1

/-! ## Small steps -/

theorem test_crc_check_value : crc16 [0x31, 0x32, 0x33, 0x34, 0x35, 0x36, 0x37, 0x38, 0x39] = 0x29B1 := by decide
theorem test_ident : reply (.ident .office 1) State.reset = some [0, 0, 6, 0x40, 3, 6, 32, 1, 0, 24, 0, 0, 0] := by decide
theorem test_set_mode : reply (.setMode .office 1 1) State.reset = some [0, 0, 1] ∧
    (after (.setMode .office 1 1) State.reset).mode = .run ∧ reply (.setMode .office 1 3) State.reset = some [2, 0] := by decide
theorem test_utility_status : (reply (.utilityStatus .office 1) State.reset).map List.length = some 72 := by decide
theorem test_bay_status : (reply (.bayStatus .office 1 1) (washYard .running aFlush)).map (fun b => (b.length, b.drop 2 |>.take 13)) =
    some (27, [1, 0, 0, 7, 0, 1, 3, 0xFF, 0, 1, 0, 0, 0]) := by decide
theorem test_carry_over_row : reply (.loadCarryover .office 1 3 (Vector.replicate 16 4)) State.reset =
    some ([0, 0, 3] ++ List.replicate 16 0x0F) := by decide
theorem test_map_read_length : (reply (.mapRead .office 1 1 0 15 0 11) State.reset).map List.length = some 204 := by decide
theorem test_mark_locks_out : (after (.markSet .office 1 2) State.reset).lanes[(1 : Fin 6)].holds.lockout = true := by decide
theorem test_fault_line_raises : ((after (.faultLineRise .acid) State.reset).notices.set 0).map Entry.event =
    [.utilityLost .acid true 0] := by decide
theorem test_spare_rate_is_code_0 : (after (.resetLineRelease 6) (after .resetLineAssert State.reset)).officeRate = 0 ∧
    (after (.resetLineRelease 5) (after .resetLineAssert State.reset)).officeRate = 5 := by decide
theorem test_step_end_of_a_flush :
    (after (.stepEnd 0 4 0 50) (yard { washing .running with delivered := 6 } (rec1 .washing) aFlush)).lanes[(0 : Fin 6)].st = .starved := by
  decide
theorem test_probe_moves_the_pointer :
    ((after (.probe 0 5) { washYard .scanning anInspect with
      scans := State.reset.scans.set 0 (some { pointer := ⟨3, 7⟩, written := 0, window := ⟨3, 4, 5, 7⟩, order := .sectorDown, threshold := 2 }) }
      ).scan 0).map (fun x => (x.pointer, x.written)) = some (⟨4, 7⟩, 1) := by decide
theorem test_fill_completes :
    (after (.fillComplete 0 0 100 20) (fillYard .filling)).records.map (fun r => (r.st, r.filled, r.outcome)) =
      [(.filled, 100, some .complete)] := by decide
/-- A lane whose FLUSH ends with the next report, its entry followed by this one, on a free port that last sent the flush's orders. -/
def beforeStep (next : Descriptor) : State :=
  let s := yard { washing .running with delivered := 6, orders := ⟨.stay, some .hotWater, true, false, false⟩ }
    { rec1 .washing with program := some ⟨0, .follow, 6⟩ } aFlush
  { s with store := { s.store with entries := s.store.entries.set 1 next },
           ports := Vector.replicate 6 { Port.released with sending := none } }
theorem test_a_scan_begins_with_its_own_orders :
    let s := after (.stepEnd 0 4 0 50) (beforeStep anInspect)
    (s.lane 0).st = .scanning ∧ (s.port 0).sending = some ⟨.stay, none, true, false, true⟩ ∧ (s.port 0).due = false := by decide
theorem test_a_step_not_begun_orders_nothing :
    let s := after (.stepEnd 0 4 0 50) (beforeStep (.flush .steam 1 none none false false 1))
    (s.lane 0).st = .idle ∧ (s.port 0).sending = some ⟨.stay, none, true, false, false⟩ ∧ (s.port 0).due = false := by decide
theorem test_no_word_spells_a_command : decodeTableWord 8 0 = none := by decide

/-! ## Witnesses: for each obligation with hypotheses, states and operands that meet those of each clause, the clauses in its order.
An equation that only names a state (`t = …`) is met by that state. -/

/-- A frame of READ_CARRYOVER, waiting in a buffer. -/
def aFrame : Frame := { kind := 0x11, tag := 5, body := [3] }
/-- The machine after reset with an office link of this shape. -/
def withOffice (x : Link) : State := { State.reset with office := x }
/-- The machine after reset in a mode. -/
def inMode (m : Mode) : State := { State.reset with mode := m }
/-- The machine after reset with a certificate unit of this shape. -/
def withCerts (u : CertUnit) : State := { State.reset with certs := u }
/-- The machine after reset with one utility record replaced. -/
def withUtil (u : UtilId) (x : Util) : State := State.reset.setUtil u x
/-- A grant or claim of lane 1. -/
def claim1 : Claim := { lane := 0, urgent := false, arrival := 0, kept := false }
/-- A certificate with a number. -/
def aCert (n : Nat) : Cert := State.reset.fillCert n (rec1 .certified) false

theorem test_w_step : ({ State.reset with pending := [.minuteTick, .resetLineAssert] } : State).pending = .minuteTick :: [.resetLineAssert] ∧
    State.reset.pending = [] := by decide
theorem test_w_frames :
    asRequest (.setClock .office 1 9) = some (.office, 1, .setClock 9) ∧ State.reset.LinkFree .office ∧
    asRequest (.ident .panel 1) = some (.panel, 1, .ident) ∧ State.reset.LinkFree .panel ∧ officeOnly Request.ident.kind = false ∧
    (let s := withOffice { Link.reset with inHand := true }
     s.pins.resetHeld = false ∧ (s.link .office).inHand = true ∧ (s.link .office).buffer = none) ∧
    (let s := withOffice { Link.reset with inHand := true, buffer := some aFrame }
     s.pins.resetHeld = false ∧ (s.link .office).buffer.isSome = true) := by decide
theorem test_w_link_checks :
    (0x3F : Byte).toNat < 0x40 ∧ (0x3F : Byte).toNat ∉ requestKinds ∧ (0 : Byte).toNat ∉ requestKinds ∧
    asRequest (.restart .panel 1) = some (.panel, 1, .restart) ∧ officeOnly Request.restart.kind = true ∧
    (let x := { Link.reset with assembly := .check 4 [0x11, 5, 1, 2] [(crc16 [4, 0x11, 5, 1, 2]).extractLsb' 8 8] }
     (x.assembly = .check 4 (0x11 :: 5 :: [1, 2]) [(crc16 [4, 0x11, 5, 1, 2]).extractLsb' 8 8]) ∧ (withOffice x).LinkFree .office) ∧
    (let c := crc16 (4 :: 0x11 :: 5 :: [1, 2]); c = c.extractLsb' 8 8 ++ c.extractLsb' 0 8) ∧
    (0x11 : Byte).toNat ∈ requestKinds ∧ ([1, 2] : List Byte).length ≠ bodyLength (0x11 : Byte).toNat [1, 2] ∧
    ([3, 2, 7] : List Byte).length ≠ bodyLength (0x12 : Byte).toNat [3, 2, 7] ∧
    ([3, 1, 7] : List Byte).length = bodyLength (0x12 : Byte).toNat [3, 1, 7] ∧
    ([] : List Byte).length ≠ bodyLength (0x20 : Byte).toNat [] ∧
    (0x03 : Byte).toNat ∈ requestKinds ∧ readRequest 0x03 [] = .badLength ∧ officeOnly 0x03 = true := by decide
theorem test_w_rejects_and_sent :
    ((withOffice { Link.reset with inHand := true, buffer := some aFrame }).link .office).buffer.isSome = true ∧
    (let s := withOffice { Link.reset with assembly := .length, gapTimer := true }
     (s.link .office).assembly ≠ .hunting ∧ (s.link .office).gapTimer = true) ∧
    Link.reset.reject = none ∧ ({ Link.reset with reject := some ⟨.gap, 254⟩ } : Link).reject = some ⟨.gap, 254⟩ ∧
    (let s := withOffice { Link.reset with sending := some (.reply aFrame), inHand := true }
     (s.link .office).sending = some (.reply aFrame) ∧ (s.link .office).buffer = none) ∧
    (let s := withOffice { Link.reset with sending := some (.reply aFrame), inHand := true, buffer := some aFrame }
     (s.link .office).sending = some (.reply aFrame) ∧ (s.link .office).buffer = some aFrame) ∧
    (let s := withOffice { Link.reset with sending := some (.reject ⟨.gap, 255⟩), inHand := true }
     (s.link .office).sending = some (.reject ⟨.gap, 255⟩) ∧ (s.link .office).inHand = true) ∧
    (let s := withOffice { Link.reset with sending := some (.notice ⟨0, .backlog true 1, 1⟩), inHand := true }
     (s.link .office).sending = some (.notice ⟨0, .backlog true 1, 1⟩) ∧ (s.link .office).inHand = true) ∧
    (let s := withOffice { Link.reset with sending := some (.notice ⟨0, .backlog true 1, 1⟩) }
     (s.link .office).sending = some (.notice ⟨0, .backlog true 1, 1⟩) ∧ (s.link .office).buffer = none) ∧
    (State.reset.link .office).sending = none ∧ (State.reset.link .office).buffer = none ∧ (State.reset.link .office).assembly = .hunting ∧
    ((withOffice { Link.reset with assembly := .length }).link .office).gapTimer = false ∧ State.reset.pins.resetHeld = false := by decide
theorem test_w_receiver :
    (State.reset.link .office).assembly = .hunting ∧ (0x5F : Byte) ≠ 0x5E ∧
    ((withOffice { Link.reset with assembly := .length }).link .office).assembly = .length ∧
    3 ≤ (3 : Byte).toNat ∧ (250 : Byte).toNat ≤ 250 ∧ (2 : Byte).toNat < 3 ∧ 250 < (251 : Byte).toNat ∧
    ([] : List Byte).length + 1 < (3 : Byte).toNat ∧ ([1, 9] : List Byte).length + 1 = (3 : Byte).toNat ∧
    ((withOffice { Link.reset with assembly := .check 3 [0x3F, 9, 0] [] }).link .office).assembly = .check 3 [0x3F, 9, 0] [] ∧
    (let c := crc16 [3, 0x3F, 9, 0]; c = c.extractLsb' 8 8 ++ c.extractLsb' 0 8) ∧ (0x3F : Byte).toNat < 0x40 ∧
    (let c := crc16 [3, 0x40, 9, 0]; c = c.extractLsb' 8 8 ++ c.extractLsb' 0 8) ∧ 0x40 ≤ (0x40 : Byte).toNat ∧
    crc16 [3, 0x40, 9, 0] ≠ (0 : Byte) ++ (0 : Byte) := by decide
theorem test_w_received_frames : (Instr.unknownKind .office 1 0x3F [0]).wf = true ∧ (Instr.depart .panel 7 1).wf = true ∧
    asRequest (.depart .panel 7 1) = some (.panel, 7, .depart 1) ∧ State.reset.pins.resetHeld = false ∧
    (State.reset.link .panel).assembly = .hunting ∧ (State.reset.link .panel).gapTimer = false ∧ State.reset.choose = State.reset := by
  refine ⟨by decide, by decide, by decide, by decide, by decide, by decide, rfl⟩
/-- A link with a waiting reply and a waiting REJECT. -/
def bothWait (rejectFirst : Bool) : Link := { Link.reset with reply := some aFrame, reject := some ⟨.gap, 1⟩, rejectFirst := rejectFirst }
/-- A notice unit with output on and a notice in a queue. -/
def unitWith (urgent routine : List Notice) : NoticeUnit := { NoticeUnit.reset with output := true, urgent := urgent, routine := routine }
theorem test_w_bodies_and_codes : (List.replicate 255 (0 : Byte)).length ≤ 255 ∧ (List.replicate 255 rawBlank).length ≤ 255 := by decide
theorem test_w_sending_and_idle_transmitters :
    ((withOffice { bothWait true with sending := some (.reply aFrame) }).link .office).sending ≠ none ∧
    (let s := { State.reset with notices := unitWith [] [] }
     s.panel.sending = none ∧ s.panel.reply = none ∧ s.panel.reject = none ∧ s.office.sending = none ∧ s.office.reply = none ∧
       s.office.reject = none ∧ s.notices.output = true ∧ s.notices.urgent = [] ∧ s.notices.routine = []) := by decide
theorem test_w_transmitters :
    (bothWait false).sending = none ∧ (bothWait false).reply = some aFrame ∧ (bothWait false).rejectFirst = false ∧
    (bothWait true).reject = some ⟨.gap, 1⟩ ∧ (bothWait true).rejectFirst = true ∧
    (let s := { State.reset with notices := unitWith [⟨0, .backlog true 1, 1⟩] [] }
     s.office.sending = none ∧ s.office.reply = none ∧ s.office.reject = none ∧ s.notices.output = true ∧
       s.notices.urgent = ⟨0, .backlog true 1, 1⟩ :: []) ∧
    (let s := { State.reset with notices := unitWith [] [⟨0, .utilityBack .acid 1, 1⟩] }
     s.office.sending = none ∧ s.notices.output = true ∧ s.notices.urgent = [] ∧ s.notices.routine = ⟨0, .utilityBack .acid 1, 1⟩ :: []) ∧
    State.reset.notices.output = false ∧
    ({ State.reset with panel := { Link.reset with sending := some (.notice ⟨0, .backlog true 1, 1⟩) } } : State).choose.panel.sending =
      some (.notice ⟨0, .backlog true 1, 1⟩) := by decide
theorem test_w_settings :
    State.reset.LinkFree .office ∧ (1 : Byte) ≠ 0 ∧ (255 : Byte) ≠ 0 ∧ State.reset.pins.resetHeld = false ∧
    1 ≤ (1 : Byte).toNat ∧ (24 : Byte).toNat ≤ 24 ∧ 24 < (25 : Byte).toNat ∧
    State.reset.certs.backlog = decide (State.reset.certs.highWater ≤ State.reset.certs.log.length) ∧
    (let s := withCerts { CertUnit.reset with log := [aCert 1], highWater := 1 }
     s.certs.backlog ≠ decide (s.certs.highWater ≤ s.certs.log.length)) := by decide
theorem test_w_cert_base : State.reset.LinkFree .panel ∧ (inMode .run).mode ≠ .dormant ∧ State.reset.mode = .dormant ∧
    (withCerts { CertUnit.reset with log := [aCert 1] }).certs.log ≠ [] ∧ State.reset.certs.log = [] ∧ (1 : BitVec 32) ≠ 0 := by decide
theorem test_w_link_setup : (1 : Byte).toNat ≤ 1 ∧ (0x3FFF : BitVec 16).toNat < 2 ^ 14 ∧ 1 < (2 : Byte).toNat ∧
    2 ^ 14 ≤ (0x4000 : BitVec 16).toNat ∧ (0 : Fin 14).val + 1 = EventKind.stepDone.code ∧ (13 : Fin 14).val + 1 = EventKind.modeChange.code := by decide
theorem test_w_carry_over : (15 : Byte).toNat = (15 : Cargo).val ∧ (16 : Byte).toNat = 16 ∧ 16 < (17 : Byte).toNat ∧
    (16 : Byte).toNat = (16 : Fin 17).val ∧
    (∀ y : Cargo, carryEntry? (Vector.replicate 16 (7 : Byte))[y] = some (Vector.replicate 16 (CarryEntry.required 7))[y]) ∧
    (∃ y : Cargo, carryEntry? (Vector.replicate 16 (8 : Byte))[y] = none) := by decide
theorem test_w_verdicts : (63 : Byte).toNat ≤ 63 ∧ 1 ≤ (1 : Byte).toNat ∧ (63 : Byte).toNat + (1 : Byte).toNat ≤ 64 ∧ 63 < (64 : Byte).toNat ∧
    (48 : Byte).toNat + (16 : Byte).toNat ≤ 64 ∧ 64 < (49 : Byte).toNat + (16 : Byte).toNat ∧ 16 < (17 : Byte).toNat ∧
    [(1 : Byte), 0x10, 0x11].map judgement? = [Judgement.pass 1, .rewash, .refer].map some ∧ (∃ o ∈ [(1 : Byte), 8], judgement? o = none) := by decide
theorem test_w_steps : (4 : Byte).toNat < (5 : Byte).toNat ∧ (5 : Byte).toNat ≤ (5 : Byte).toNat ∧
    [rawBlank].map RawStep.read = [Descriptor.blank].map some ∧ 1 ≤ [rawBlank].length ∧ 8 < (List.replicate 9 rawBlank).length ∧
    (∃ r ∈ [rawBlank, { rawBlank with kind := 5 }], RawStep.read r = none) ∧
    RawStep.read ⟨1, 0x0F, 2, 0x4E, 0x20, 99, 255, 9, 0, 0, 0, 0, 0, 0, 7, 7⟩ = some (.flush .acid 20000 (some 99) (some 255) true true 9) ∧
    RawStep.read ⟨2, 0x01, 4, 0xFF, 0xFF, 100, 0, 9, 0, 0, 0, 0, 0, 0, 0, 0⟩ = some (.blow .dryer 65535 none true 9) ∧
    RawStep.read ⟨3, 0x03, 9, 0, 1, 100, 0, 9, 0, 0, 0, 0, 0, 0, 0, 0⟩ = some (.soak 1 true true 9) ∧
    RawStep.read ⟨4, 0x09, 9, 0, 0, 0, 5, 9, 15, 0, 11, 0, 3, 7, 0, 0⟩ = some (.inspect ⟨15, 0, 11, 0⟩ .sectorDown 7 5 true 9) ∧
    ({ StepStore.reset with pins := StepStore.reset.pins.set 0 (some 0) } : StepStore).pinned 0 = true ∧ StepStore.reset.pinned 0 = false ∧
    1 ≤ (1 : Byte).toNat ∧ (8 : Byte).toNat ≤ 8 ∧ 8 < (9 : Byte).toNat := by decide
/-- A fill line carrying class 3, with these grants and claims. -/
def fillLine (grants claims : List Claim) : Util := { Util.reset 1 false with cargo := some 3, grants := grants, claims := claims }
theorem test_w_set_utility :
    util? 5 = some .fillA ∧ util? 2 = some .acid ∧ bool? 1 = some true ∧ bool? 0 = some false ∧ cargoOrNone? 0xFF = some none ∧
    cargoOrNone? 3 = some (some 3) ∧ 6 < (7 : Byte).toNat ∧ (6 : Byte).toNat ≤ 6 ∧ isFillLine .acid = false ∧ isFillLine .fillA = true ∧
    (let s := withUtil .fillA (fillLine [claim1] []); (some 4 : Option Cargo) ≠ (s.util .fillA).cargo ∧ (s.util .fillA).grants ≠ []) ∧
    (let s := withUtil .acid { Util.reset 1 false with grants := [claim1] }
     (true ≠ (s.util .acid).offline ∧ (s.util .acid).inService = true) ∧ (false = (s.util .acid).offline ∧ (1 : Byte).toNat ≤ (s.util .acid).capacity) ∧
       (s.util .acid).inService = true ∧ (s.util .acid).capacity < (2 : Byte).toNat) ∧
    (let s := withUtil .acid { Util.reset 1 false with offline := true }
     (s.util .acid).offline = true ∧ (s.util .acid).fault = false ∧ (s.util .acid).inService = false ∧ (s.util .acid).capacity < (6 : Byte).toNat) ∧
    6 < (7 : Byte).toNat ∧ 1 < (2 : Byte).toNat ∧ (15 < (16 : Byte).toNat ∧ (16 : Byte).toNat ≠ 255) := by decide
theorem test_w_marks : 3 < (4 : Byte).toNat ∧ (0 : Byte).toNat = (0 : Fin 32).val ∧ (31 : Byte).toNat = (31 : Fin 32).val ∧ 8 ≤ (8 : Fin 32).val ∧
    (6 : Fin 32).val = (5 : Bay).val + 1 ∧ State.reset.marks[(6 : Fin 32)] = false ∧
    (let s := { State.reset with marks := State.reset.marks.set 1 true }; s.marks[(1 : Fin 32)] = true ∧ (1 : Fin 32).val = (0 : Bay).val + 1) ∧
    State.reset.marks[(7 : Fin 32)] = false ∧ (inMode .run).mode = .run ∧ (inMode .stopped).mode ≠ .run ∧ 31 < (32 : Byte).toNat ∧
    (let s := { State.reset with marks := State.reset.marks.set 7 true }
     s.LinkFree .panel ∧ s.marks[(7 : Fin 32)] = true ∧ 7 ≤ (7 : Fin 32).val ∧ (7 : Byte).toNat = (7 : Fin 32).val) := by decide
theorem test_w_set_mode :
    2 < (3 : Byte).toNat ∧ mode? 0 = some .dormant ∧ mode? 1 = some .run ∧ mode? 2 = some .stopped ∧
    (inMode .dormant).mode = .dormant ∧ (inMode .dormant).stopLevel = false ∧ (inMode .dormant).marks[7] = false ∧
    ({ inMode .dormant with stopLevel := true } : State).stopLevel = true ∧ (inMode .run).mode ≠ .stopped ∧ (inMode .stopped).mode = .stopped ∧
    (inMode .stopped).stopLevel = false ∧ (inMode .stopped).marks[7] = false ∧
    ({ inMode .stopped with marks := State.reset.marks.set 7 true } : State).marks[7] = true ∧
    (∃ b, (washYard .running aFlush).visit b ≠ none) ∧ (washYard .running aFlush).mode ≠ .dormant ∧
    (∀ b, (inMode .stopped).visit b = none) ∧ (∀ b, (inMode .run).visit b = none) := by decide
theorem test_w_park : ((inMode .run).lane 5).st = .idle := by decide
theorem test_w_restart_masked :
    (let s := { inMode .stopped with notices := { unitWith [] [] with masks := Vector.replicate 14 true } }
     s.mode ≠ .dormant ∧ s.notices.output = true ∧ s.notices.masked .modeChange = true) ∧
    (after (.restart .office 1) { inMode .stopped with notices := { unitWith [] [] with masks := Vector.replicate 14 true } }).notices.counter = 1 := by
  decide
theorem test_w_restart : State.reset.mode = .dormant ∧ (inMode .run).mode ≠ .dormant ∧ (inMode .run).notices.output = false ∧
    (let s := { inMode .run with notices := unitWith [] [] }; s.notices.output = true ∧ s.notices.masked .modeChange = false) ∧
    (State.reset.port 0).sending = some Orders.reset ∧
    (({ State.reset with ports := Vector.replicate 6 { Port.released with sending := none } } : State).port 0).sending = none := by decide
theorem test_w_front_end :
    (Request.admitVisit 1 1 0 [1]).notInDormant = true ∧ (Request.extend 7 1 0).namesOne = true ∧ (Request.extend 7 1 0).place? = none ∧
    (0 : Byte).toNat = 0 ∧ 6 < (7 : Byte).toNat ∧
    Request.bayClear 7 ∈ [Request.depart 7, .bayClear 7, .abort 7, .hold 7, .resume 7] ∧
    (Request.assign 1 1 0 0 0 8).place? = none ∧ (Request.orderFill 1 1 16 1).place? = none ∧ (Request.orderFill 1 1 15 20001).place? = none ∧
    (Request.extend 6 8 0).place? = some (5, 8) ∧ (inMode .run).visit 5 = none ∧ (inMode .run).mode ≠ .dormant ∧
    (Request.cancelFill 1 2).place? = some (0, 2) ∧ (washYard .running aFlush).visit 0 = some { fleet := 7, urgent := false, count := 1 } ∧ 1 < 2 := by decide
theorem test_w_admit :
    6 < (7 : Byte).toNat ∧ (0 : Byte).toNat = 0 ∧ 1 < (2 : Byte).toNat ∧ (∃ p ∈ [(3 : Byte), 17], 16 < p.toNat) ∧ (0 : BitVec 24).toNat = 0 ∧
    999999 < (1000000 : BitVec 24).toNat ∧ (999999 : BitVec 24).toNat ≤ 999999 ∧ 8 < (List.replicate 9 (0 : Byte)).length ∧
    (6 : Byte).toNat = (5 : Bay).val + 1 ∧ [(0 : Byte), 15, 16].map prior? = [some 0, some 15, none].map some ∧
    (washYard .running aFlush).visit 0 ≠ none ∧ (inMode .run).visit 0 = none ∧ (withCerts { CertUnit.reset with backlog := true }).certs.backlog = true ∧
    32 < (List.replicate 30 (rec1 .admitted)).length + [(0 : Byte), 15, 16].length ∧
    (List.replicate 29 (rec1 .admitted)).length + [(0 : Byte), 15, 16].length ≤ 32 := by decide
theorem test_w_depart :
    (1 : Byte).toNat = (0 : Bay).val + 1 ∧ (inMode .run).visit 0 = none ∧
    (let s := yard (Lane.reset false) (rec1 .referred) .blank; s.visit 0 ≠ none ∧ rec1 .referred ∈ s.records ∧ (rec1 .referred).bay = 0) ∧
    (let s := yard (Lane.reset false) (rec1 .filled) .blank
     s.visit 0 ≠ none ∧ (∀ r ∈ s.records, r.bay = 0 → (r.st = .admitted ∨ r.st = .dirty ∨ r.st = .certified ∨ r.st = .filled)) ∧
       (s.lane 0).st = .idle ∧ s.holding 0 = none) ∧
    (let s := (washYard .running aFlush).setUtil .hotWater { Util.reset 1 false with grants := [claim1] }
     s.visit 0 ≠ none ∧ s.holding 0 = some .hotWater) := by decide
/-- The compartment of the yard is named by its record. -/
theorem test_w_names (l : Lane) (st : CompState) (o : Option FillOrder) (d : Descriptor) :
    (yard l { rec1 st with order := o } d).Names 0 1 { rec1 st with order := o } := ⟨_, rfl, Nat.le_refl 1, rfl⟩
theorem test_w_assign : (Request.assign 1 1 0 0 0 7).place? = some (0, 1) ∧ (rec1 .washing).st ≠ .admitted ∧ (rec1 .washing).st ≠ .dirty ∧
    (rec1 .dirty).st = .dirty ∧ ((yard (Lane.reset false) (rec1 .dirty) .blank).lane 0).queue = [] := by decide
theorem test_w_extend : (Request.extend 1 1 255).place? = some (0, 1) ∧ ¬ ((rec1 .certified).st = .queued ∨ (rec1 .certified).st = .washing) ∧
    (rec1 .washing).program = some { head := 0, chain := .bounded 0, cls := 6 } ∧
    (let s := washYard .starved aFlush
     (s.lane 0).current = some 1 ∧ (s.lane 0).service = some .wash ∧ (s.lane 0).st = .starved ∧ (s.entry (s.lane 0).index).next? = some 1) ∧
    (let s := washYard .starved .blank; (s.lane 0).st = .starved ∧ (s.entry (s.lane 0).index).next? = none) ∧
    (let s := yard { washing .held with ret := some .starved } (rec1 .washing) aFlush
     (s.lane 0).st = .held ∧ (s.lane 0).ret = some .starved) ∧
    ((yard (Lane.reset false) (rec1 .queued) aFlush).lane 0).current ≠ some 1 ∧ ((washYard .running aFlush).lane 0).st ≠ .starved := by decide
/-- A yard whose record is in a state, FILL_A carrying class 3, and prior class 3 before cargo 3 requiring a class. -/
def orderYard (st : CompState) (l : Lane) (e : CarryEntry) : State :=
  { (yard l (rec1 st) .blank).setUtil .fillA (fillLine [] []) with carry := State.reset.carry.set 3 (Vector.replicate 16 e) }
theorem test_w_order_fill :
    (Request.orderFill 1 1 3 20000).place? = some (0, 1) ∧ (3 : Byte).toNat = (3 : Cargo).val ∧ (rec1 .filled).st = .filled ∧
    (rec1 .certified).st ≠ .filling ∧ ((inMode .run).util .fillA).cargo ≠ some 3 ∧ ((inMode .run).util .fillB).cargo ≠ some 3 ∧
    (let s := orderYard .admitted (Lane.reset false) .forbidden
     (s.util .fillA).cargo = some 3 ∧ s.carryEntry (rec1 .admitted).prior 3 = .forbidden) ∧
    (let s := orderYard .certified (Lane.reset false) (.required 1); s.carryEntry (rec1 .certified).prior 3 = .required 1 ∧ (rec1 .certified).achieved < 1) ∧
    (let s := orderYard .certified (Lane.reset false) (.required 0)
     s.carryEntry (rec1 .certified).prior 3 = .required 0 ∧ 0 ≤ (rec1 .certified).achieved ∧ { index := 1, kind := .fill } ∉ (s.lane 0).queue) ∧
    (let s := orderYard .certified { Lane.reset false with queue := [⟨1, .fill⟩] } (.required 0); ⟨1, .fill⟩ ∈ (s.lane 0).queue) ∧
    (rec1 .washing).st ≠ .certified := by decide
theorem test_w_cancel_fill : (Request.cancelFill 1 1).place? = some (0, 1) ∧ (rec1 .certified).order = none ∧ (rec1 .filled).st = .filled ∧
    ({ rec1 .certified with order := some ⟨3, 100⟩ } : Comp).order ≠ none ∧ (rec1 .filling).st = .filling ∧ (rec1 .washing).st ≠ .certified ∧
    ((fillYard .filling).lane 0).current = some 1 ∧
    (fillYard .filling).record? 0 1 = some { rec1 .filling with order := some { cargo := 3, target := 100 } } := by decide
theorem test_w_fills_wait :
    (let s := fillYard .seating
     (s.lane 0).current = some 1 ∧ (s.lane 0).service = some .fill ∧ s.record? 0 1 = some { rec1 .filling with order := some ⟨3, 100⟩ } ∧
       s.chooseLine 3 = none) ∧
    ((fillYard .seating).setUtil .fillB (fillLine [] [])).chooseLine 3 = some .fillB := by decide
/-- A fill line's readiness to grant at once, as the statement of the choice spells it. -/
def readyLine (z : Util) : Prop := z.offline = false ∧ z.fault = false ∧ z.grants.length < z.capacity ∧ z.claims = []
/-- A fill line carrying class 3 with every place taken and this many claims, in service or not. -/
def fullLine (claims : Nat) (offline : Bool) : Util :=
  { fillLine [] (List.replicate claims claim1) with capacity := 0, offline := offline }
theorem test_w_line_choice : (fillLine [] []).cargo = some 3 ∧ (Util.reset 1 false).cargo ≠ some 3 ∧ readyLine (fillLine [] []) ∧
    ¬ readyLine (fillLine [claim1] []) ∧ ¬ readyLine (fullLine 0 false) ∧ (fullLine 0 false).inService = true ∧
    (fullLine 0 true).inService = false ∧ ¬ readyLine (fullLine 0 true) ∧ (fullLine 1 false).claims.length < (fullLine 2 false).claims.length ∧
    ¬ readyLine (fullLine 2 false) ∧ (fullLine 1 false).inService = (fullLine 2 false).inService := by
  unfold readyLine; decide
theorem test_w_referral : (Request.ruleReferral 1 1 1 7).place? = some (0, 1) ∧ (Request.ruleReferral 1 1 0 0).place? = some (0, 1) ∧
    (rec1 .washing).st ≠ .referred ∧ (rec1 .referred).st = .referred ∧ (1 : Byte).toNat = 1 ∧ (0 : Byte).toNat = 0 ∧
    (let s := yard (Lane.reset false) (rec1 .referred) .blank
     s.record? 0 1 = some (rec1 .referred) ∧ s.certs.hold = false ∧ s.certs.log.length < 24 ∧ s.certs.next = some 1) ∧
    (let s := { yard (Lane.reset false) (rec1 .referred) .blank with certs := { CertUnit.reset with next := none } }
     s.record? 0 1 = some (rec1 .referred) ∧ s.certs.next = none ∧ s.certs.hold = false) ∧
    (withCerts { CertUnit.reset with hold := true }).certs.hold = true ∧
    24 ≤ (withCerts { CertUnit.reset with log := List.replicate 24 (aCert 1) }).certs.log.length ∧
    (withCerts { CertUnit.reset with next := none }).certs.next = none := by decide
theorem test_w_issue : (4294967295 : Nat) = 4294967295 ∧
    (let s := yard (Lane.reset false) (rec1 .referred) .blank
     s.record? (rec1 .referred).bay (rec1 .referred).index = some (rec1 .referred) ∧ (rec1 .referred).order = none ∧ s.certs.hold = false ∧
       ¬ (0 < s.certs.period ∧ s.certs.period ≤ min 255 (s.certs.counter + 1))) ∧
    (withCerts { CertUnit.reset with hold := true }).certs.hold = true ∧
    (let u := { CertUnit.reset with period := 5, counter := 4 }; u.hold = false ∧ 0 < u.period ∧ u.period ≤ min 255 (u.counter + 1)) ∧
    ({ rec1 .referred with order := some ⟨3, 100⟩ } : Comp).order ≠ none := by decide
theorem test_w_retire : (0 : Byte).toNat = 0 ∧ 24 < (25 : Byte).toNat ∧
    (let s := withCerts { CertUnit.reset with log := [aCert 1] }
     s.certs.log.length < (2 : Byte).toNat ∧ (1 : Byte).toNat ≤ s.certs.log.length ∧ s.certs.log = aCert 1 :: []) ∧
    State.reset.certs.hold = false ∧ (withCerts { CertUnit.reset with hold := true, next := none }).certs.next = none ∧
    (withCerts { CertUnit.reset with hold := true }).certs.next ≠ none ∧
    (let s := { yard (Lane.reset false) (rec1 .awaitCert) .blank with certs := { CertUnit.reset with withheld := [⟨0, 1, false⟩] } }
     s.certs.withheld = ⟨0, 1, false⟩ :: [] ∧ s.certs.hold = false ∧ s.certs.log.length < 24 ∧ s.certs.next = some 1 ∧
       s.record? 0 1 = some (rec1 .awaitCert)) ∧ State.reset.certs.withheld = [] := by decide
theorem test_w_status_reads : (6 : Byte).toNat = (5 : Bay).val + 1 ∧ 6 < (7 : Byte).toNat ∧ bay? 7 = none ∧ index? 9 = none ∧ bay? 1 = some 0 ∧
    index? 8 = some 8 ∧ State.reset.visit 0 = none ∧ (washYard .running aFlush).visit 0 = some { fleet := 7, urgent := false, count := 1 } ∧
    1 < 8 ∧ 1 ≤ (4 : Byte).toNat ∧ (4 : Byte).toNat ≤ 4 ∧ 4 < (5 : Byte).toNat := by decide
theorem test_w_map_read : 15 < (16 : Byte).toNat ∧ 11 < (12 : Byte).toNat ∧ (1 : Byte).toNat < (2 : Byte).toNat ∧
    (0 : Byte).toNat ≤ (15 : Byte).toNat ∧ (15 : Byte).toNat ≤ 15 ∧ (11 : Byte).toNat ≤ 11 ∧ State.reset.scan 0 = none ∧
    (({ State.reset with scans := State.reset.scans.set 0 (some ⟨⟨3, 7⟩, 0, ⟨3, 4, 5, 7⟩, .sectorDown, 2⟩) } : State).scan 0) =
      some ⟨⟨3, 7⟩, 0, ⟨3, 4, 5, 7⟩, .sectorDown, 2⟩ := by decide
theorem test_w_pending : 6 < (7 : Byte).toNat ∧ (6 : Byte).toNat = (6 : Scope).val ∧ (∃ k ∈ [(15 : Byte)], eventKind? k = none) ∧
    (∃ k ∈ [(10 : Byte)], ∃ e, eventKind? k = some e ∧ (e.yard = true ↔ (1 : Byte).toNat ≠ 0)) ∧
    [(1 : Byte), 9].map eventKind? = [EventKind.stepDone, .overfill].map some ∧
    (∀ e ∈ [EventKind.stepDone, .overfill], e.yard = true ↔ (1 : Scope) = 0) := by
  refine ⟨by decide, by decide, by decide, ⟨10, by decide, .utilityLost, by decide, by decide⟩, by decide, by decide⟩
/-- A notice unit with output on and one pending entry in the yard's set. -/
def onePending (n : Nat) : NoticeUnit :=
  { NoticeUnit.reset with output := true, pending := NoticeUnit.reset.pending.set 0 [⟨.backlog true 1, n, 0⟩] }
theorem test_w_events : (∀ x ∈ NoticeUnit.reset.set 0, x.event.kind ≠ (Event.backlog true 1).kind) ∧
    (onePending 255).set 0 = [] ++ ⟨.backlog true 1, 255, 0⟩ :: [] ∧ (1 : Scope) ≠ 0 ∧ NoticeUnit.reset.output = false ∧
    8 ≤ (({ NoticeUnit.reset with urgent := List.replicate 8 ⟨0, .backlog true 1, 1⟩ } : NoticeUnit).queue true).length ∧
    (onePending 1).output = true ∧ ((onePending 1).queue true).length < 8 ∧ (⟨.backlog true 1, 1, 0⟩ : Entry) ∈ (onePending 1).set 0 ∧
    (onePending 1).masked .backlog = false ∧ (∀ sc', ∀ y ∈ (onePending 1).set sc', (sc', y) = (0, ⟨.backlog true 1, 1, 0⟩)) := by decide
theorem test_w_equal_order_numbers :
    (let u := { onePending 1 with pending := (onePending 1).pending.set 1 [⟨.fault .noFlow 1 0, 1, 0⟩, ⟨.referral 1, 1, 0⟩] }
     u.output = true ∧ (u.queue true).length < 8 ∧ (⟨.backlog true 1, 1, 0⟩ : Entry) ∈ u.set 0 ∧ u.masked .backlog = false ∧
       (∀ sc', ∀ y ∈ u.set sc', (sc', y) ≠ (0, ⟨.backlog true 1, 1, 0⟩) → 0 = y.order ∧ 0 < sc')) ∧
    (∀ sc, NoticeUnit.reset.set sc = []) ∧ (∃ sc, (onePending 1).set sc ≠ []) := by decide
theorem test_w_abort : (1 : Byte).toNat = (0 : Bay).val + 1 ∧
    (let s := washYard .seating aFlush; (s.lane 0).st ≠ .idle ∧ (s.lane 0).service = some .wash ∧ (s.lane 0).current = some 1 ∧
      s.record? 0 1 = some (rec1 .washing) ∧ s.holding 0 = none) ∧
    ((inMode .run).lane 0).st = .idle ∧ ((fillYard .filling).lane 0).service ≠ some .wash ∧
    ((washYard .running aFlush).setUtil .hotWater { Util.reset 1 false with grants := [claim1] }).holding 0 = some .hotWater := by decide
/-- A lane HELD by the host with a return state. -/
def heldWith (r : LaneState) : Lane := { washing .held with ret := some r, holds := { Holds.none with host := true } }
theorem test_w_holds :
    (heldWith .running).holds.has .host = true ∧ (washing .running).holds.has .host = false ∧ (Lane.reset false).st = .idle ∧
    (heldWith .running).holds ≠ Holds.none ∧ (washing .running).st ≠ .idle ∧ (washing .running).holds = Holds.none ∧
    (heldWith .running).holds.put .host false = Holds.none ∧ ({ heldWith .running with holds := ⟨true, true, false⟩ } : Lane).holds.put .host false ≠ Holds.none ∧
    ({ Lane.reset false with holds := ⟨true, false, false⟩ } : Lane).holds.put .host false = Holds.none ∧
    (washYard .held aFlush).entry 0 = aFlush ∧ aFlush.utility? = some .hotWater ∧ aSoak.utility? = none ∧
    (heldWith .running).seated = (heldWith .running).current ∧ ({ heldWith .seating with seated := some 2 } : Lane).seated ≠ some 1 ∧
    (heldWith .draining).ret = some .draining ∧ (heldWith .starved).starveRelease = false ∧ aFlush.next? = some 1 ∧
    ({ heldWith .scanning with seated := some 2 } : Lane).seated ≠ (heldWith .scanning).current ∧
    (let m := { heldWith .starved with starveRelease := true }
     m.ret = some .starved ∧ m.starveRelease = true ∧ (State.reset.entry m.index).next? = none ∧ (washYard .held aFlush).entry m.index = aFlush) := by
  decide
theorem test_w_reports_count :
    (Lane.reset false).st = .idle ∧ (washing .starved).st = .starved ∧ (fillingLane .filling).current = some 1 ∧
    (washYard .running aFlush).entry ((washYard .running aFlush).lane 0).index = .flush .hotWater 10 (some 40) (some 2) false false 1 ∧
    (∀ t, some 40 = some t → t ≤ 40) ∧ (39 : Nat) < 40 ∧
    (washYard .running aBlow).entry 0 = .blow .steam 10 (some 40) false 1 ∧ (washYard .running aSoak).entry 0 = .soak 10 true false 1 := by
  refine ⟨by decide, by decide, by decide, by decide, ?_, by decide, by decide, by decide⟩
  intro t h
  injection h with h
  omega
theorem test_w_reports_judged :
    (99 : Byte).toNat ≤ 99 ∧ 99 < (100 : Byte).toNat ∧
    (let t := washYard .running aFlush; t.reportEnd 0 = .goesOn) ∧
    (let t := yard { washing .running with delivered := 10 } (rec1 .washing) aFlush; t.reportEnd 0 = .stepEnd ∧ 10 ≤ (t.lane 0).delivered) ∧
    (let t := yard { washing .running with noFlow := 2 } (rec1 .washing) aFlush; t.reportEnd 0 = .noFlow ∧ (t.lane 0).delivered < 10 ∧ 2 ≤ (t.lane 0).noFlow) ∧
    (let t := yard { washing .running with cold := 120 } (rec1 .washing) aFlush; t.reportEnd 0 = .coldSupply ∧ t.timing.cold ≤ (t.lane 0).cold) ∧
    (let t := yard { washing .running with cold := 120 } (rec1 .washing) aBlow; t.reportEnd 0 = .coldSupply) ∧
    (let t := yard { washing .running with delivered := 10 } (rec1 .washing) aSoak; t.reportEnd 0 = .stepEnd) ∧
    (let t := yard { washing .seating with timer := 40 } (rec1 .washing) aFlush; t.reportEnd 0 = .seatTimeout ∧ t.timing.seat ≤ (t.lane 0).timer ∧
      (t.lane 0).current = some 1 ∧ t.record? 0 1 = some (rec1 .washing)) ∧
    (let t := yard { washing .draining with timer := 60 } (rec1 .washing) aFlush; t.reportEnd 0 = .drainStuck) ∧
    (let t := yard { washing .starved with timer := 20 } (rec1 .washing) aFlush; t.reportEnd 0 = .underrun) ∧
    (let t := yard { washing .scanning with timer := 5 } (rec1 .washing) anInspect; t.reportEnd 0 = .scanStall) ∧
    (let t := yard { fillingLane .filling with noFlow := 30 } { rec1 .filling with order := some ⟨3, 100⟩ } .blank; t.reportEnd 0 = .fillStall) ∧
    (let t := yard (fillingLane .filling) { rec1 .filling with order := some ⟨3, 100⟩, filled := 100 } .blank; t.reportEnd 0 = .fillComplete) ∧
    (let t := yard { washing .scanning with timer := 4 } (rec1 .washing) anInspect
     (t.lane 0).st = .scanning ∧ t.entry (t.lane 0).index = anInspect ∧ (t.lane 0).timer < 5 ∧ t.reportEnd 0 = .goesOn) ∧
    (let t := fillYard .filling; t.reportEnd 0 = .goesOn) := by decide
theorem test_w_signals :
    (let s := washYard .seating aFlush; (s.lane 0).st = .seating ∧ (s.lane 0).current = some (1 : Byte).toNat ∧ (s.lane 0).service = some .wash) ∧
    ((fillYard .seating).lane 0).service = some .fill ∧ ((washYard .running aFlush).lane 0).current ≠ some (8 : Byte).toNat ∧
    ((fillYard .filling).lane 0).st = .filling ∧ ((inMode .run).lane 0).st = .idle ∧ 1 ≤ (1 : Byte).toNat ∧ (8 : Byte).toNat ≤ 8 ∧
    8 < (9 : Byte).toNat ∧ (0 : Byte).toNat = 0 ∧ ((washYard .draining aFlush).lane 0).st = .draining ∧
    (washYard .running aFlush).entry ((washYard .running aFlush).lane 0).index = .flush .hotWater 10 (some 40) (some 2) false false 1 ∧
    ((washYard .running aSoak).entry 0).kind ≠ .flush := by decide
/-- A lane scanning a window of one ring and two sectors, this many readings in, its map's first zone read as 3. -/
def scanYard (n : Nat) (verdicts : Vector Judgement 64) : State :=
  { washYard .scanning (.inspect ⟨0, 0, 0, 1⟩ .ringUp 2 5 false 1) with
    scans := State.reset.scans.set 0 (some { pointer := ⟨0, if n = 0 then 0 else 1⟩, written := n, window := ⟨0, 0, 0, 1⟩, order := .ringUp, threshold := 2 })
    maps := State.reset.maps.set 0 (ResidueMap.clear.set 0 (some 3)), verdicts := verdicts }
theorem test_w_probe :
    (7 : Byte).toNat = (7 : Grade).val ∧ 7 < (8 : Byte).toNat ∧ ((inMode .run).lane 0).st ≠ .scanning ∧ ((scanYard 0 State.reset.verdicts).lane 0).st = .scanning ∧
    (scanZones ⟨0, 0, 0, 1⟩ .ringUp)[0 + 1]? = some ⟨0, 1⟩ ∧ (scanZones ⟨0, 0, 0, 1⟩ .ringUp)[1 + 1]? = none ∧
    (scanYard 1 State.reset.verdicts).verdictAt (7 * 8 + 2) = .refer ∧
    (scanYard 1 (Vector.replicate 64 (.pass 4))).verdictAt (7 * 8 + 2) = .pass 4 ∧ (scanYard 1 (Vector.replicate 64 .rewash)).verdictAt (7 * 8 + 2) = .rewash ∧
    ((after (.probe 0 7) (scanYard 1 (Vector.replicate 64 .rewash))).records.map fun r => r.verdict) = [some ⟨7, 2, some .rewash, 58⟩] := by decide
theorem test_w_take :
    ((washYard .running aFlush).lane 0).st ≠ .idle ∧ (inMode .dormant).mode ≠ .run ∧ (heldWith .running).holds ≠ Holds.none ∧
    (let s := yard { Lane.reset false with queue := [⟨1, .wash⟩], seated := some 1 } (rec1 .queued) aFlush
     (s.lane 0).st = .idle ∧ s.mode = .run ∧ (s.lane 0).holds = Holds.none ∧ s.certs.hold = false ∧ (s.lane 0).queue = ⟨1, .wash⟩ :: [] ∧
       s.record? 0 1 = some (rec1 .queued) ∧ (rec1 .queued).program = some ⟨0, .bounded 0, 6⟩ ∧ (s.lane 0).seated = some 1) ∧
    (Lane.reset false).seated ≠ some 1 ∧
    (let s := yard { Lane.reset false with queue := [⟨1, .fill⟩] } { rec1 .certified with order := some ⟨3, 100⟩ } .blank
     (s.lane 0).queue = ⟨1, .fill⟩ :: [] ∧ (s.util .fillA).cargo ≠ some 3 ∧ (s.util .fillB).cargo ≠ some 3) ∧
    (orderYard .certified (Lane.reset false) .forbidden).carryEntry (some 3) 3 = .forbidden ∧
    (orderYard .certified (Lane.reset false) (.required 1)).carryEntry (some 3) 3 = .required 1 ∧ (rec1 .certified).achieved < 1 ∧
    (orderYard .certified (Lane.reset false) (.required 0)).carryEntry (some 3) 3 = .required 0 := by decide
theorem test_w_fetch :
    64 ≤ ({ washing .seating with fetched := 64 } : Lane).fetched ∧ ({ washing .seating with fetched := 63 } : Lane).fetched < 64 ∧
    (washing .seating).current = some 1 ∧ (State.reset.entry 0 = .blank) ∧
    (washYard .seating (.flush .steam 1 none none false false 1)).entry 0 = .flush .steam 1 none none false false 1 ∧
    (washYard .seating (.inspect ⟨1, 0, 0, 0⟩ .ringUp 0 1 false 0)).entry 0 = .inspect ⟨1, 0, 0, 0⟩ .ringUp 0 1 false 0 ∧
    (washYard .seating aFlush).entry 0 = .flush .hotWater 10 (some 40) (some 2) false false 1 ∧ (washYard .seating aBlow).entry 0 = .blow .steam 10 (some 40) false 1 ∧
    (washYard .seating aSoak).entry 0 = .soak 10 true false 1 ∧ (washing .seating).seated = some 1 ∧ ({ washing .seating with seated := none } : Lane).seated ≠ some 1 ∧
    (washYard .seating anInspect).entry 0 = .inspect ⟨3, 4, 5, 7⟩ .sectorDown 2 5 false 1 ∧ aFlush.drainAfter = false ∧ aSoak.drainAfter = true ∧
    (washYard .running aFlush).record? 0 1 = some (rec1 .washing) ∧ (rec1 .washing).program = some ⟨0, .bounded 0, 6⟩ ∧
    (Descriptor.soak 1 false true 0).endMark = true ∧ aSoak.endMark = false ∧ Chain.bounded 0 = .bounded ((washing .running).index) ∧
    Chain.follow ≠ .bounded 0 ∧ aSoak.next? = some 1 ∧ (washing .running).inspected = false ∧
    ({ washing .running with inspected := true } : Lane).inspected = true := by decide
theorem test_w_arbiter :
    (State.reset.util .acid).claims = [] ∧
    (let s := withUtil .acid { Util.reset 1 false with claims := [claim1] }
     (s.util .acid).claims = claim1 :: [] ∧ (s.util .acid).offline = false ∧ (s.util .acid).fault = false ∧
       (s.util .acid).grants.length < (s.util .acid).capacity) ∧
    (let s := washYard .waitResource aFlush; (s.lane 0).current ≠ none ∧ (s.lane 0).seated = (s.lane 0).current ∧ (s.lane 0).service = some .wash) ∧
    ((fillYard .waitResource).lane 0).service = some .fill ∧ ({ washing .waitResource with seated := none } : Lane).seated ≠ some 1 ∧
    [claim1].Pairwise (fun x y => x.urgent = y.urgent ∧ x.arrival ≤ y.arrival ∨ x.urgent = true ∧ y.urgent = false) ∧
    ((Util.reset 1 false).drop 0).grants = [] ∧ (({ Util.reset 1 false with grants := [claim1] } : Util).drop 1).grants ≠ [] := by decide
theorem test_w_equal_claims :
    let q : List Claim := [⟨1, true, 9, false⟩, ⟨2, false, 4294967295, true⟩]
    q.Pairwise (fun x y => x.urgent = y.urgent ∧ x.arrival ≤ y.arrival ∨ x.urgent = true ∧ y.urgent = false) ∧
    insertClaim ⟨3, false, 4294967295, true⟩ q = q ++ [⟨3, false, 4294967295, true⟩] ∧
    (washYard .running aFlush).visit 0 = some ⟨7, false, 1⟩ := by decide
theorem test_w_fault_lines :
    (State.reset.util .acid).offline = false ∧ (State.reset.util .acid).fault = false ∧
    ((withUtil .acid (Util.reset 1 true)).util .acid).fault = true ∧ ((withUtil .acid { Util.reset 1 false with offline := true }).util .acid).offline = true ∧
    ((withUtil .acid { Util.reset 1 false with returning := some 0 }).util .acid).returning = some 0 ∧
    ((washYard .running aFlush).entry 0).kind = .flush ∧ ((washYard .running aBlow).entry 0).kind ≠ .flush := by decide
theorem test_w_ports :
    asNodeMessage (.bayReport 5 255 0 99) = some (5, 0x01, [255, 0, 99]) ∧ (State.reset.port 5).partway = none ∧ State.reset.pins.resetHeld = false ∧
    (0x79 : Byte) ≠ 0x7A ∧ 6 < (7 : Byte).toNat ∧
    ((State.reset.setPartway 0 (some [])).port 0).partway = some [] ∧ ((State.reset.setPartway 0 (some [2, 1])).port 0).partway = some ((2 : Byte) :: [1]) ∧
    payloadLength? 2 = some ([1] : List Byte).length ∧ ((2 : Byte) :: ([1] ++ [0])).foldl (· + ·) 0 ≠ 0 ∧
    (State.reset.port 0).sending ≠ none ∧ (State.reset.port 0).due = false ∧
    (({ State.reset with ports := Vector.replicate 6 { Port.released with due := true } } : State).port 0).due = true ∧
    ordersOf .blank (Lane.reset false) = (State.reset.lane 0).orders ∧ ordersOf aFlush (washing .running) ≠ (State.reset.lane 0).orders ∧
    (washing .seating).current = some 1 ∧ aFlush.utility? = some .hotWater ∧ aSoak.utility? = none := by decide
theorem test_w_reset_line : (after .resetLineAssert State.reset).pins.resetHeld = true ∧ State.reset.pins.resetHeld = false ∧
    isLineRow .minuteTick = false := by decide
theorem test_w_invariants : (let s := { State.reset with pending := [.minuteTick] }
    ∃ t, step s = .next t ∧ s.notices.urgent.length ≤ 8 ∧ s.certs.log.length ≤ 24 ∧ s.records.length ≤ 32 ∧ s.store.first ≤ s.store.pointer) :=
  ⟨_, rfl, by decide, by decide, by decide, by decide⟩
theorem test_w_pending_kept : ({ State.reset with notices := onePending 1 } : State).PendingKept := by unfold State.PendingKept; decide
theorem test_w_numbers_run : (withCerts { CertUnit.reset with log := [aCert 8, aCert 9], next := some 10 }).NumbersRun := by
  refine ⟨fun i => ?_, ?_⟩
  · match i with
    | 0 =>
      intro c d hc hd
      obtain rfl : aCert 8 = c := Option.some.inj hc
      obtain rfl : aCert 9 = d := Option.some.inj hd
      rfl
    | i + 1 => exact fun c d _ hd => absurd hd (by simp [withCerts])
  · intro c hc
    obtain rfl : aCert 9 = c := Option.some.inj hc
    rfl
/-- A yard whose lane runs a FLUSH with its grant and its pin, a minute tick pending. -/
def soundYard : State :=
  let s := (yard (washing .running) (rec1 .washing) aFlush).setUtil .hotWater { Util.reset 3 false with grants := [claim1] }
  { s with pending := [.minuteTick], store := { s.store with pins := s.store.pins.set 0 (some 0) } }
theorem test_w_yard_sound : soundYard.YardSound ∧ ∃ t, step soundYard = .next t := by
  refine ⟨?_, _, rfl⟩
  exact
    { visitCount := show ∀ b, ∀ v ∈ soundYard.visit b, 1 ≤ v.count ∧ v.count ≤ 8 by decide
      recordsDistinct := by decide
      recordsOfVisits := by
        refine fun b k => ⟨?_, ?_⟩
        · rintro ⟨r, hr, rfl, rfl⟩
          obtain rfl := List.mem_singleton.1 hr
          exact ⟨_, rfl, Nat.le_refl 1, Nat.le_refl 1⟩
        · rintro ⟨v, hv, h1, h2⟩
          have hb : ∀ b, ∀ v ∈ soundYard.visit b, b = 0 ∧ v.count = 1 := by decide
          obtain ⟨rfl, hc⟩ := hb b v hv
          exact ⟨_, List.mem_singleton.2 rfl, rfl, by change 1 = k; omega⟩
      laneServes := by decide
      laneStates := by decide
      laneHeld := by decide
      dormant := by decide
      recordServed := by decide
      achieved := by decide
      program := by decide
      certificate := by decide
      queueDistinct := by decide
      queueRecords := by decide
      queueComplete := by decide
      withheldDistinct := by decide
      withheldRecords := by
        refine fun b k => ⟨?_, ?_⟩
        · rintro ⟨w, hw, _⟩
          exact absurd hw List.not_mem_nil
        · rintro ⟨r, hr, _, _, h⟩
          obtain rfl := List.mem_singleton.1 hr
          exact absurd h (by decide)
      holdsOne := by decide
      grantStates := fun u => by cases u <;> decide
      claimStates := fun u => by cases u <;> decide
      stateHolds := by
        have h : ∀ b, ((soundYard.lane b).st ≠ .waitResource ∧ (soundYard.lane b).st ≠ .suspended ∧ (soundYard.lane b).st ≠ .filling) ∧
          ((soundYard.lane b).st = .running → b = 0) := by decide
        refine fun b => ⟨fun hb => ?_, fun hb => ?_⟩
        · rcases hb with hb | hb
          · exact absurd hb (h b).1.1
          · exact absurd hb (h b).1.2.1
        · rcases hb with hb | hb
          · exact absurd hb (h b).1.2.2
          · obtain rfl := (h b).2 hb.1
            exact ⟨.hotWater, claim1, by decide, rfl⟩
      pinned := by decide
      scanPresent := by decide
      scanPointer := show ∀ b, ∀ x ∈ soundYard.scan b, _ by decide
      scanStep := by
        have h : ∀ b, soundYard.scan b = none := by decide
        exact fun b x hx => absurd hx (by rw [h b]; exact nofun) }
/-- A yard without visits whose lanes carry these hold causes. -/
def heldYard (m : Mode) (holds : Bay → Holds) : State :=
  { inMode m with lanes := Vector.ofFn fun b => { Lane.reset false with holds := holds b } }
theorem test_w_locked_out :
    let s := { heldYard .run (fun b => { Holds.none with lockout := decide (b = 0 ∨ b = 5) }) with
      marks := (State.reset.marks.set 1 true).set 6 true }
    s.YardSound ∧ s.CausesFollow ∧ s.OrdersFollow ∧ s.marks[(0 : Bay).val + 1] = true ∧ s.marks[(5 : Bay).val + 1] = true := by
  refine ⟨emptyYard_sound _ (by decide) rfl (by decide) (by decide) rfl (fun u => by cases u <;> decide) (by decide) (by decide), ?_, ?_, ?_, ?_⟩
  · unfold State.CausesFollow; decide
  · unfold State.OrdersFollow; decide
  · decide
  · decide
theorem test_w_stopped :
    let s := heldYard .stopped fun _ => { Holds.none with stop := true }
    s.YardSound ∧ s.CausesFollow ∧ s.OrdersFollow ∧ s.mode = .stopped := by
  refine ⟨emptyYard_sound _ (by decide) rfl (by decide) (by decide) rfl (fun u => by cases u <;> decide) (by decide) (by decide), ?_, ?_, rfl⟩
  · unfold State.CausesFollow; decide
  · unfold State.OrdersFollow; decide
/-- A scan two readings long, its first reading written, meets what is said of scan records. -/
theorem test_w_scan_records :
    (let s := scanYard 1 State.reset.verdicts
     ∀ b, (s.scan b).isSome = true ↔ (s.lane b).st = .scanning ∨ ((s.lane b).st = .held ∧ (s.lane b).ret = some .scanning)) ∧
    (scanZones ⟨0, 0, 0, 1⟩ .ringUp)[1]? = some ⟨0, 1⟩ ∧
    (scanYard 1 State.reset.verdicts).scan 0 = some ⟨⟨0, 1⟩, 1, ⟨0, 0, 0, 1⟩, .ringUp, 2⟩ ∧
    (scanYard 1 State.reset.verdicts).stepOf 0 = .inspect ⟨0, 0, 0, 1⟩ .ringUp 2 5 false 1 := by decide

end Sys2Proof.Tests
end

section
/-! PROOFS. The carry-over table's rows as requests name them (R26, R28), and the reading of one row (R30). -/

namespace Sys2Proof.Machine

/-- A byte that is a prior class's code names that class's row. -/
theorem row?_of_priorCode {row : Byte} {p : Option Cargo} (h : row.toNat = priorCode p) : row? row = some (rowIx p) := by
  cases p with
  | none =>
    have h16 : row.toNat = 16 := h
    simp [row?, prior?, h16]
  | some c =>
    have hc : row.toNat = c.val := h
    have hne : c.val ≠ 16 := by omega
    simp [row?, prior?, cargo?, hc, hne]

/-- A byte above UNKNOWN's code names no row. -/
theorem row?_eq_none {row : Byte} (h : 16 < row.toNat) : row? row = none := by
  have hne : row.toNat ≠ 16 := by omega
  have hge : 16 ≤ row.toNat := by omega
  simp [row?, prior?, cargo?, hne, hge]

/-- A row's bytes are the codes of its lookups (R27), in column order. -/
theorem rowBytes_carry (s : State) (p : Option Cargo) :
    rowBytes s.carry[rowIx p] = (List.finRange 16).map fun y => byte (s.carryEntry p y).code := by
  apply List.ext_getElem
  · simp [rowBytes]
  · intro i _ _
    simp [rowBytes, State.carryEntry]

/-- READ_CARRYOVER is permitted on both links, so at a free link the owner answers (R30, R171). -/
theorem exec_readCarryover_free (l : LinkId) (tag row : Byte) (s : State) (hf : s.LinkFree l) :
    exec (.readCarryover l tag row) s =
      .next ((answerReadCarryover row s).1.answered l 0x11 tag (answerReadCarryover row s).2) := by
  have hp : permitted l (Request.readCarryover row).kind = true := by cases l <;> rfl
  exact exec_free rfl s hf hp

/-- A read of a prior class's row leaves the machine as it is and returns that row, with its byte echoed. -/
theorem answerReadCarryover_row {row : Byte} {p : Option Cargo} (h : row.toNat = priorCode p) (s : State) :
    answerReadCarryover row s = (s, .ok (row :: (List.finRange 16).map fun y => byte (s.carryEntry p y).code)) := by
  simp only [answerReadCarryover, row?_of_priorCode h, rowBytes_carry]

/-- A read of a row that does not exist is refused and changes nothing. -/
theorem answerReadCarryover_refused {row : Byte} (h : 16 < row.toNat) (s : State) :
    answerReadCarryover row s = (s, .refuse .badValue) := by
  simp only [answerReadCarryover, row?_eq_none h]

/-- Settles O16: each byte is a class's code, UNKNOWN's code or names no row, and the owner's answer is known in each case. -/
theorem readCarryoverReturnsTheRow : Obligations.ReadCarryoverReturnsTheRow := by
  intro l tag row s hf
  rw [exec_readCarryover_free l tag row s hf]
  refine ⟨fun c hc => ?_, fun hu => ?_, fun hb => ?_⟩
  · rw [answerReadCarryover_row (p := some c) hc]
  · rw [answerReadCarryover_row (p := none) hu]
  · rw [answerReadCarryover_refused hb]

end Sys2Proof.Machine
end

section
/-! PROOFS. What the link unit answers to an office-only request from the panel (R171), and the step store's window (R44). -/

namespace Sys2Proof.Machine

/-- A request kind its link does not permit is refused by the link unit, and no owner sees it. -/
theorem serve_notPermitted (s : State) (l : LinkId) (r : Request) (h : permitted l r.kind = false) :
    s.serve l r.kind (.request r) = (s, .refuse .notPermitted) := by simp [State.serve, h]

/-- A request row its link does not permit, on a free link: NOT_PERMITTED in hand, and nothing else changed. -/
theorem exec_free_notPermitted {c : Instr} {l : LinkId} {tag : Byte} {r : Request} (h : asRequest c = some (l, tag, r)) (s : State)
    (hf : s.LinkFree l) (hp : permitted l r.kind = false) :
    exec c s = .next (s.answered l r.kind tag (.refuse .notPermitted)) := by
  rw [exec_asRequest h, request_free s l tag r hf, serve_notPermitted s l r hp]

/-- A store index carried in a reply is the byte it was read from. -/
@[simp] theorem byte_stepIx (x : Byte) : byte (stepIx x).val = x := by simp [byte, stepIx]

/-- A first index not above the last sets the window and the pointer, and leaves the entries and pins. -/
theorem answerStepWindow_set {first last : Byte} (h : first.toNat ≤ last.toNat) (s : State) :
    answerStepWindow first last s =
      ({ s with store := { s.store with first := stepIx first, last := stepIx last, pointer := stepIx first } },
        .ok [first, last, first]) := by
  simp [answerStepWindow, h, StepStore.windowBytes]

/-- A first index above the last is refused and changes nothing. -/
theorem answerStepWindow_refused {first last : Byte} (h : last.toNat < first.toNat) (s : State) :
    answerStepWindow first last s = (s, .refuse .badValue) := by
  simp [answerStepWindow, Nat.not_le.mpr h]

/-- STEP_WINDOW from the free office link is answered by the step store. -/
theorem exec_stepWindow_office (tag first last : Byte) (s : State) (hf : s.LinkFree .office) :
    exec (.stepWindow .office tag first last) s =
      .next ((answerStepWindow first last s).1.answered .office 0x14 tag (answerStepWindow first last s).2) :=
  exec_free (r := .stepWindow first last) rfl s hf (permitted_office _)

/-- STEP_WINDOW is office-only: from the free panel link it is refused. -/
theorem exec_stepWindow_panel (tag first last : Byte) (s : State) (hf : s.LinkFree .panel) :
    exec (.stepWindow .panel tag first last) s = .next (s.answered .panel 0x14 tag (.refuse .notPermitted)) :=
  exec_free_notPermitted (r := .stepWindow first last) rfl s hf rfl

/-- Settles O20: the link unit refuses the panel, and the step store's answer to the office turns on the order of the two indices. -/
theorem stepWindowSetsWindowAndPointer : Obligations.StepWindowSetsWindowAndPointer := by
  intro tag first last s
  refine ⟨exec_stepWindow_panel tag first last s, fun hf => ?_⟩
  rw [exec_stepWindow_office tag first last s hf]
  refine ⟨fun above => ?_, fun ordered => ?_⟩
  · rw [answerStepWindow_refused above]
  · rw [answerStepWindow_set ordered]

end Sys2Proof.Machine
end

section
/-! PROOFS. A run of the verdict table read back (R111). -/

namespace Sys2Proof.Machine

/-- READ_VERDICT is permitted on both links, so at a free link the owner answers (R111, R171). -/
theorem exec_readVerdict_free (l : LinkId) (tag first count : Byte) (s : State) (hf : s.LinkFree l) :
    exec (.readVerdict l tag first count) s =
      .next ((answerReadVerdict first count s).1.answered l 0x13 tag (answerReadVerdict first count s).2) := by
  have hp : permitted l (Request.readVerdict first count).kind = true := by cases l <;> rfl
  exact exec_free rfl s hf hp

/-- A run of 1 to 16 entries that ends within the table's 64 leaves the machine as it is and is returned. -/
theorem answerReadVerdict_run {first count : Byte} (lower : 1 ≤ count.toNat) (upper : count.toNat ≤ 16)
    (fits : first.toNat + count.toNat ≤ 64) (s : State) :
    answerReadVerdict first count s = (s, .ok (first :: count :: s.verdictBytes first.toNat count.toNat)) := by
  have noFault : ¬ (63 < first.toNat ∨ count.toNat = 0 ∨ 16 < count.toNat ∨ 64 < first.toNat + count.toNat) := by omega
  rw [answerReadVerdict, if_neg noFault]

/-- A first index or count out of its range, or a run past the table's end, is refused and changes nothing. -/
theorem answerReadVerdict_refused {first count : Byte}
    (fault : 63 < first.toNat ∨ count.toNat = 0 ∨ 16 < count.toNat ∨ 64 < first.toNat + count.toNat) (s : State) :
    answerReadVerdict first count s = (s, .refuse .badValue) := by
  rw [answerReadVerdict, if_pos fault]

/-- Settles O18: the owner answers both links, and its answer turns on whether the run lies within the table. -/
theorem readVerdictReturnsTheRun : Obligations.ReadVerdictReturnsTheRun := by
  intro l tag first count s hf
  rw [exec_readVerdict_free l tag first count s hf]
  refine ⟨fun _ lower upper fits => ?_, fun fault => ?_⟩
  · rw [answerReadVerdict_run lower upper fits, State.verdictBytes]
  · rw [answerReadVerdict_refused fault]

end Sys2Proof.Machine
end

section
/-! PROOFS. What IDENT reports of the part (R180). -/

namespace Sys2Proof.Machine

/-- IDENT is permitted on both links, so at a free link the owner answers (R171, R180). -/
theorem exec_ident_free (l : LinkId) (tag : Byte) (s : State) (hf : s.LinkFree l) :
    exec (.ident l tag) s = .next ((answerIdent s).1.answered l 0x01 tag (answerIdent s).2) := by
  have hp : permitted l Request.ident.kind = true := by cases l <;> rfl
  exact exec_free rfl s hf hp

/-- The part's constants as their fields show them: part code 0x0640, revision 3, 6 bays, 32 records, 256 steps, 24 log entries. -/
theorem partBytes_eq :
    bytes2 Config.partCode ++ [byte Config.revision, byte Config.bays, byte Config.records] ++ bytes2 Config.steps ++
      [byte Config.logCapacity] = [0x06, 0x40, 3, 6, 32, 0x01, 0x00, 24] := by decide

/-- In every mode the owner leaves the machine as it is, and appends to the part's constants the mode, the stop-line level and the
office rate as they stand. -/
theorem answerIdent_eq (s : State) :
    answerIdent s =
      (s, .ok [0x06, 0x40, 3, 6, 32, 0x01, 0x00, 24, byte s.mode.code, flag s.stopLevel, byte s.officeRate]) :=
  congrArg (fun part => (s, Reply.ok (part ++ [byte s.mode.code, flag s.stopLevel, byte s.officeRate]))) partBytes_eq

/-- Settles O11: the owner answers both links, and its answer leaves the machine as it is. -/
theorem identReportsThePart : Obligations.IdentReportsThePart := by
  intro l tag s hf
  rw [exec_ident_free l tag s hf, answerIdent_eq]

end Sys2Proof.Machine
end

section
/-! PROOFS. The notice unit's operations (R158 to R166): what each does to the pending sets, the queues and the order counter. -/

namespace Sys2Proof.Machine

namespace NoticeUnit

/-! ## The pending sets -/

/-- The unit with one scope's pending set replaced. -/
def withSet (u : NoticeUnit) (sc : Scope) (xs : List Entry) : NoticeUnit := { u with pending := u.pending.set sc xs }

@[simp] theorem set_withSet (u : NoticeUnit) (sc : Scope) (xs : List Entry) : (u.withSet sc xs).set sc = xs := by
  simp [set, withSet]

theorem set_withSet_other (u : NoticeUnit) {sc sc' : Scope} (xs : List Entry) (h : sc' ≠ sc) :
    (u.withSet sc xs).set sc' = u.set sc' := by
  have : sc.val ≠ sc'.val := fun e => h (Fin.ext e).symm
  simp [set, withSet, this]

@[simp] theorem settleCounter_set (u : NoticeUnit) (sc : Scope) : u.settleCounter.set sc = u.set sc := by
  unfold settleCounter; split <;> rfl
@[simp] theorem settleCounter_urgent (u : NoticeUnit) : u.settleCounter.urgent = u.urgent := by
  unfold settleCounter; split <;> rfl
@[simp] theorem settleCounter_routine (u : NoticeUnit) : u.settleCounter.routine = u.routine := by
  unfold settleCounter; split <;> rfl

/-- No set holds an entry exactly when each is empty. -/
theorem noneEntered_iff (u : NoticeUnit) : u.noneEntered = true ↔ ∀ sc, u.set sc = [] := by
  have hall : ∀ sc : Scope, sc ∈ allScopes := by decide
  simp only [noneEntered, List.all_eq_true, List.isEmpty_iff]
  exact ⟨fun h sc => h sc (hall sc), fun h sc _ => h sc⟩

theorem settleCounter_counter (u : NoticeUnit) :
    ((∀ sc, u.set sc = []) → u.settleCounter.counter = 0) ∧ ((∃ sc, u.set sc ≠ []) → u.settleCounter.counter = u.counter) := by
  unfold settleCounter
  refine ⟨fun h => ?_, fun ⟨sc, h⟩ => ?_⟩
  · rw [if_pos (u.noneEntered_iff.2 h)]
  · rw [if_neg fun e => h (u.noneEntered_iff.1 e sc)]

theorem removeKind_eq (u : NoticeUnit) (sc : Scope) (k : EventKind) :
    u.removeKind sc k = (u.withSet sc ((u.set sc).filter fun x => x.event.kind ≠ k)).settleCounter := rfl

@[simp] theorem removeKind_set (u : NoticeUnit) (sc : Scope) (k : EventKind) :
    (u.removeKind sc k).set sc = (u.set sc).filter fun x => x.event.kind ≠ k := by simp [removeKind_eq]
theorem removeKind_set_other (u : NoticeUnit) {sc sc' : Scope} (k : EventKind) (h : sc' ≠ sc) :
    (u.removeKind sc k).set sc' = u.set sc' := by simp [removeKind_eq, set_withSet_other _ _ h]
@[simp] theorem removeKind_urgent (u : NoticeUnit) (sc : Scope) (k : EventKind) : (u.removeKind sc k).urgent = u.urgent := by
  simp [removeKind_eq, withSet]
@[simp] theorem removeKind_routine (u : NoticeUnit) (sc : Scope) (k : EventKind) : (u.removeKind sc k).routine = u.routine := by
  simp [removeKind_eq, withSet]

@[simp] theorem set_setQueue (u : NoticeUnit) (urgent : Bool) (q : List Notice) (sc : Scope) :
    (u.setQueue urgent q).set sc = u.set sc := by unfold setQueue; split <;> rfl

/-! ## Entering an event -/

theorem enter_fold {u : NoticeUnit} {sc : Scope} {e : Event} (h : ∃ x ∈ u.set sc, x.event.kind = e.kind) :
    u.enter sc e = u.withSet sc ((u.set sc).map fun x =>
      if x.event.kind = e.kind then { x with event := e, count := satAdd Config.max8 x.count 1 } else x) := by
  unfold enter
  rw [if_pos (by simpa using h)]
  rfl

theorem enter_new {u : NoticeUnit} {sc : Scope} {e : Event} (h : ∀ x ∈ u.set sc, x.event.kind ≠ e.kind) :
    u.enter sc e = { u.withSet sc (u.set sc ++ [{ event := e, count := 1, order := u.counter }]) with
      counter := satAdd Config.max32 u.counter 1 } := by
  unfold enter
  rw [if_neg (by simpa using h)]
  rfl

theorem enter_set_other (u : NoticeUnit) {sc sc' : Scope} (e : Event) (h : sc' ≠ sc) : (u.enter sc e).set sc' = u.set sc' := by
  by_cases hk : ∃ x ∈ u.set sc, x.event.kind = e.kind
  · rw [enter_fold hk, set_withSet_other _ _ h]
  · rw [enter_new (by simpa using hk)]
    exact set_withSet_other _ _ h

@[simp] theorem enter_urgent (u : NoticeUnit) (sc : Scope) (e : Event) : (u.enter sc e).urgent = u.urgent := by
  unfold enter; split <;> rfl
@[simp] theorem enter_routine (u : NoticeUnit) (sc : Scope) (e : Event) : (u.enter sc e).routine = u.routine := by
  unfold enter; split <;> rfl

/-! ## Logging -/

/-- What logging one candidate does: the oldest goes to the tail of a queue that had room, and leaves its set. -/
theorem logOne_cases {u v : NoticeUnit} {urgent : Bool} (h : u.logOne urgent = some v) :
    u.output = true ∧ (u.queue urgent).length < capacity urgent ∧ ∃ sc x, oldest (u.candidates urgent) = some (sc, x) ∧
      v = (u.setQueue urgent (u.queue urgent ++ [{ scope := sc, event := x.event, count := x.count }])).removeKind sc
        x.event.kind := by
  unfold logOne at h
  split at h
  · next hroom =>
    split at h
    · cases h
    · next sc x hx => exact ⟨hroom.1, hroom.2, sc, x, hx, by simpa using h.symm⟩
  · cases h

/-- What logging one candidate keeps, logging several keeps. -/
theorem logUpTo_keeps {P : NoticeUnit → Prop} (urgent : Bool) (h : ∀ u v : NoticeUnit, u.logOne urgent = some v → P u → P v)
    (n : Nat) (u : NoticeUnit) (hu : P u) : P (logUpTo n urgent u) := by
  induction n generalizing u with
  | zero => exact hu
  | succ n ih =>
    unfold logUpTo
    split
    · exact hu
    · next v hv => exact ih v (h u v hv hu)

/-! ## The queues keep to their capacities -/

/-- Both queues keep to their capacities (R160). -/
def Room (u : NoticeUnit) : Prop := u.urgent.length ≤ 8 ∧ u.routine.length ≤ 32

theorem room_of_queues {u v : NoticeUnit} (hu : v.urgent.length ≤ u.urgent.length) (hr : v.routine.length ≤ u.routine.length)
    (h : u.Room) : v.Room := ⟨hu.trans h.1, hr.trans h.2⟩

theorem room_logOne {urgent : Bool} (u v : NoticeUnit) (h : u.logOne urgent = some v) (hu : u.Room) : v.Room := by
  obtain ⟨-, hlen, sc, x, -, rfl⟩ := logOne_cases h
  obtain ⟨h8, h32⟩ := hu
  cases urgent
  · exact ⟨by simpa [setQueue] using h8, by simpa [setQueue, queue, capacity, Config.routineCapacity] using hlen⟩
  · exact ⟨by simpa [setQueue, queue, capacity, Config.urgentCapacity] using hlen, by simpa [setQueue] using h32⟩

theorem room_judge (urgent : Bool) {u : NoticeUnit} (hu : u.Room) : (u.judge urgent).Room :=
  logUpTo_keeps urgent room_logOne _ u hu

theorem room_raise (sc : Scope) (e : Event) {u : NoticeUnit} (hu : u.Room) : (u.raise sc e).Room :=
  room_judge _ (room_of_queues (by simp) (by simp) hu)

/-! ## Each set holds each kind of its scope at most once -/

/-- A set holds each kind at most once, and only kinds of its scope (R158). -/
def SetKept (sc : Scope) (xs : List Entry) : Prop :=
  (xs.map fun x => x.event.kind).Nodup ∧ ∀ x ∈ xs, x.event.kind.yard = decide (sc = 0)

/-- Every set of the unit does. -/
def Kept (u : NoticeUnit) : Prop := ∀ sc, SetKept sc (u.set sc)

theorem SetKept.sublist {sc : Scope} {xs ys : List Entry} (h : SetKept sc ys) (hs : xs.Sublist ys) : SetKept sc xs :=
  ⟨(hs.map _).nodup h.1, fun x hx => h.2 x (hs.subset hx)⟩

theorem kept_withSet {u : NoticeUnit} (hu : u.Kept) {sc : Scope} {xs : List Entry} (h : SetKept sc xs) : (u.withSet sc xs).Kept := by
  intro sc'
  by_cases he : sc' = sc
  · subst he; simpa using h
  · simpa [set_withSet_other _ _ he] using hu sc'

theorem kept_of_sets {u v : NoticeUnit} (hu : u.Kept) (h : ∀ sc, v.set sc = u.set sc) : v.Kept := fun sc => by
  simpa [h sc] using hu sc

theorem kept_settleCounter {u : NoticeUnit} (hu : u.Kept) : u.settleCounter.Kept := kept_of_sets hu (by simp)

theorem kept_removeKind {u : NoticeUnit} (hu : u.Kept) (sc : Scope) (k : EventKind) : (u.removeKind sc k).Kept :=
  kept_settleCounter (kept_withSet hu ((hu sc).sublist List.filter_sublist))

theorem kept_logOne {urgent : Bool} (u v : NoticeUnit) (h : u.logOne urgent = some v) (hu : u.Kept) : v.Kept := by
  obtain ⟨-, -, sc, x, -, rfl⟩ := logOne_cases h
  exact kept_removeKind (kept_of_sets hu (by simp)) _ _

theorem kept_judge (urgent : Bool) {u : NoticeUnit} (hu : u.Kept) : (u.judge urgent).Kept :=
  logUpTo_keeps urgent kept_logOne _ u hu

/-- Folding an event into the entry of its kind changes no kind. -/
theorem map_fold_kinds (e : Event) (xs : List Entry) :
    (xs.map fun x => if x.event.kind = e.kind then { x with event := e, count := satAdd Config.max8 x.count 1 } else x).map
      (fun x => x.event.kind) = xs.map fun x => x.event.kind := by
  rw [List.map_map]
  refine List.map_congr_left fun x _ => ?_
  by_cases h : x.event.kind = e.kind <;> simp [h]

/-- A set's kinds decide whether it is kept. -/
theorem setKept_iff_kinds (sc : Scope) (xs : List Entry) :
    SetKept sc xs ↔ (xs.map fun x => x.event.kind).Nodup ∧ ∀ k ∈ xs.map fun x => x.event.kind, k.yard = decide (sc = 0) := by
  simp [SetKept]

theorem kept_enter {u : NoticeUnit} (hu : u.Kept) (sc : Scope) (e : Event) (he : e.kind.yard = decide (sc = 0)) :
    (u.enter sc e).Kept := by
  by_cases hk : ∃ x ∈ u.set sc, x.event.kind = e.kind
  · rw [enter_fold hk]
    refine kept_withSet hu ?_
    rw [setKept_iff_kinds, map_fold_kinds, ← setKept_iff_kinds]
    exact hu sc
  · have hk' : ∀ x ∈ u.set sc, x.event.kind ≠ e.kind := by simpa using hk
    rw [enter_new hk']
    refine kept_of_sets (kept_withSet hu (?_ : SetKept sc (u.set sc ++ [{ event := e, count := 1, order := u.counter }])))
      (fun _ => rfl)
    obtain ⟨hnd, hy⟩ := hu sc
    refine ⟨?_, fun x hx => ?_⟩
    · rw [List.map_append, List.nodup_append]
      exact ⟨hnd, by simp, by simpa using hk'⟩
    · rcases List.mem_append.1 hx with hx | hx
      · exact hy x hx
      · rw [List.mem_singleton.1 hx]; exact he

theorem kept_raise {u : NoticeUnit} (hu : u.Kept) (sc : Scope) (e : Event) (he : e.kind.yard = decide (sc = 0)) :
    (u.raise sc e).Kept := kept_judge _ (kept_enter hu sc e he)

/-! ## What requests and the office transmitter do to the unit -/

theorem room_setUp {u : NoticeUnit} (hu : u.Room) (m : Vector Bool 14) (v o : Bool) : (u.setUp m v o).Room :=
  room_judge _ (room_judge _ hu)
theorem kept_setUp {u : NoticeUnit} (hu : u.Kept) (m : Vector Bool 14) (v o : Bool) : (u.setUp m v o).Kept :=
  kept_judge _ (kept_judge _ hu)

theorem clearKinds_eq (u : NoticeUnit) (sc : Scope) (ks : List EventKind) :
    u.clearKinds sc ks = u ∨
      u.clearKinds sc ks = (u.withSet sc ((u.set sc).filter fun x =>
        !(ks.contains x.event.kind && u.masked x.event.kind))).settleCounter := by
  unfold clearKinds
  dsimp only
  split
  · exact .inl rfl
  · exact .inr rfl

theorem room_clearKinds {u : NoticeUnit} (hu : u.Room) (sc : Scope) (ks : List EventKind) : (u.clearKinds sc ks).Room := by
  rcases clearKinds_eq u sc ks with h | h <;> rw [h]
  · exact hu
  · exact room_of_queues (by simp [withSet]) (by simp [withSet]) hu
theorem kept_clearKinds {u : NoticeUnit} (hu : u.Kept) (sc : Scope) (ks : List EventKind) : (u.clearKinds sc ks).Kept := by
  rcases clearKinds_eq u sc ks with h | h <;> rw [h]
  · exact hu
  · exact kept_settleCounter (kept_withSet hu ((hu sc).sublist List.filter_sublist))

/-- A notice taken leaves its queue, which is then judged (R161). -/
theorem take_cases {u v : NoticeUnit} {n : Notice} (h : u.take = some (n, v)) :
    u.output = true ∧
      ((∃ rest, u.urgent = n :: rest ∧ v = ({ u with urgent := rest } : NoticeUnit).judge true) ∨
        (u.urgent = [] ∧ ∃ rest, u.routine = n :: rest ∧ v = ({ u with routine := rest } : NoticeUnit).judge false)) := by
  unfold take at h
  split at h
  · next ho =>
    refine ⟨ho, ?_⟩
    split at h
    · next m rest hu =>
      simp only [Option.some.injEq, Prod.mk.injEq] at h
      obtain ⟨rfl, rfl⟩ := h
      exact .inl ⟨rest, hu, rfl⟩
    · next hu =>
      split at h
      · next m rest hr =>
        simp only [Option.some.injEq, Prod.mk.injEq] at h
        obtain ⟨rfl, rfl⟩ := h
        exact .inr ⟨hu, rest, hr, rfl⟩
      · cases h
  · cases h

theorem room_take {u v : NoticeUnit} {n : Notice} (h : u.take = some (n, v)) (hu : u.Room) : v.Room := by
  obtain ⟨-, ⟨rest, hq, rfl⟩ | ⟨-, rest, hq, rfl⟩⟩ := take_cases h
  · exact room_judge _ (room_of_queues (u := u) (by simp [hq]) le_rfl hu)
  · exact room_judge _ (room_of_queues (u := u) le_rfl (by simp [hq]) hu)
theorem kept_take {u v : NoticeUnit} {n : Notice} (h : u.take = some (n, v)) (hu : u.Kept) : v.Kept := by
  obtain ⟨-, ⟨rest, hq, rfl⟩ | ⟨-, rest, hq, rfl⟩⟩ := take_cases h
  · exact kept_judge _ (kept_of_sets hu fun _ => rfl)
  · exact kept_judge _ (kept_of_sets hu fun _ => rfl)

end NoticeUnit

end Sys2Proof.Machine
end

section
/-! PROOFS. What every event of the plant keeps: queues, log, pool, pointer and pending sets in bounds, the log's numbers consecutive, bay
orders in step with the lane state, and no grant on a utility out of service. One lemma for each shared operation, then one for each task
and each request. -/

namespace Sys2Proof.Machine

/-! ## The certificate log -/

/-- The log holds a run of consecutive numbers that ends one below the next certificate number (R143). -/
def CertUnit.NumbersRun (u : CertUnit) : Prop :=
  (∀ (i : Nat) (c d : Cert), u.log[i]? = some c → u.log[i + 1]? = some d → d.number = c.number + 1) ∧
  (∀ c : Cert, u.log.getLast? = some c → u.next = if c.number = 4294967295 then none else some (c.number + 1))

/-- The oldest certificates leave a run (R150). -/
theorem CertUnit.NumbersRun.drop {u v : CertUnit} (h : u.NumbersRun) (k : Nat) (hl : v.log = u.log.drop k) (hn : v.next = u.next) :
    v.NumbersRun := by
  obtain ⟨step, last⟩ := h
  refine ⟨fun i c d hc hd => ?_, fun c hc => ?_⟩
  · rw [hl, List.getElem?_drop] at hc hd
    exact step (k + i) c d hc hd
  · rw [hl, List.getLast?_drop] at hc
    split at hc
    · cases hc
    · rw [hn]; exact last c hc

/-- A certificate with the next number joins the run (R145). -/
theorem CertUnit.NumbersRun.append {u v : CertUnit} (h : u.NumbersRun) {c : Cert} (hc : u.next = some c.number)
    (hl : v.log = u.log ++ [c]) (hn : v.next = if c.number = 4294967295 then none else some (c.number + 1)) : v.NumbersRun := by
  obtain ⟨step, last⟩ := h
  refine ⟨fun i a d ha hd => ?_, fun a ha => ?_⟩
  · rw [hl] at ha hd
    have hi : i + 1 < (u.log ++ [c]).length := (List.getElem?_eq_some_iff.1 hd).1
    rw [List.length_append, List.length_singleton] at hi
    rw [List.getElem?_append_left (by omega)] at ha
    by_cases hlast : i + 1 = u.log.length
    · rw [List.getElem?_append_right (by omega), hlast, Nat.sub_self] at hd
      obtain rfl : c = d := by simpa using hd
      have hnext := last a (by rw [List.getLast?_eq_getElem?, ← hlast]; simpa using ha)
      rw [hc] at hnext
      split at hnext
      · cases hnext
      · simpa using hnext
    · rw [List.getElem?_append_left (by omega)] at hd
      exact step i a d ha hd
  · rw [hl, List.getLast?_concat] at ha
    obtain rfl : c = a := by simpa using ha
    exact hn

/-- With an empty log any next number continues the run. -/
theorem CertUnit.NumbersRun.of_nil {u : CertUnit} (h : u.log = []) : u.NumbersRun := by
  constructor <;> simp [h]

/-- No bay's scope is the yard's. -/
theorem bayScope_ne_yard (b : Bay) : bayScope b ≠ 0 := Fin.ne_of_val_ne (Nat.succ_ne_zero b.val)

/-! ## Bay orders and the lane state -/

/-- A lane's orders show fill valve, probe and supply as its state has them (R92). -/
def Lane.OrdersFollow (l : Lane) : Prop :=
  l.orders.fill = decide (l.st = .filling) ∧ l.orders.probe = decide (l.st = .scanning) ∧ (l.orders.supply.isSome = true → l.st = .running)

/-- The orders of a lane's state follow it. -/
theorem ordersOf_follow (d : Descriptor) (l : Lane) : Lane.OrdersFollow { l with orders := ordersOf d l } := by
  unfold Lane.OrdersFollow ordersOf
  cases hl : l.st
  case running => cases d.utility? <;> simp
  all_goals simp

/-! ## The invariants that the plant's events keep -/

/-- An event that leaves both links as they are, and keeps each of these invariants. -/
structure PlantKeeps (s t : State) : Prop where
  office : t.office = s.office
  panel : t.panel = s.panel
  noticeRoom : s.notices.Room → t.notices.Room
  pendingKept : s.notices.Kept → t.notices.Kept
  logRoom : s.certs.log.length ≤ 24 → t.certs.log.length ≤ 24
  numbersRun : s.certs.NumbersRun → t.certs.NumbersRun
  poolRoom : s.records.length ≤ 32 → t.records.length ≤ 32
  pointer : s.PointerInWindow → t.PointerInWindow
  orders : (∀ b, (s.lane b).OrdersFollow) → ∀ b, (t.lane b).OrdersFollow
  grants : (∀ u, (s.util u).inService = false → (s.util u).grants = []) → ∀ u, (t.util u).inService = false → (t.util u).grants = []

namespace PlantKeeps

/-- An event that leaves the parts these invariants are about. -/
theorem of_same {s t : State} (office : t.office = s.office) (panel : t.panel = s.panel) (notices : t.notices = s.notices)
    (certs : t.certs = s.certs) (records : t.records = s.records) (store : t.store = s.store) (lanes : t.lanes = s.lanes)
    (utils : t.utils = s.utils) : PlantKeeps s t where
  office := office
  panel := panel
  noticeRoom := by rw [notices]; exact id
  pendingKept := by rw [notices]; exact id
  logRoom := by rw [certs]; exact id
  numbersRun := by rw [certs]; exact id
  poolRoom := by rw [records]; exact id
  pointer := by unfold State.PointerInWindow; rw [store]; exact id
  orders := by unfold State.lane; rw [lanes]; exact id
  grants := by unfold State.util; rw [utils]; exact id

theorem refl (s : State) : PlantKeeps s s := of_same rfl rfl rfl rfl rfl rfl rfl rfl

theorem trans {s t u : State} (h : PlantKeeps s t) (k : PlantKeeps t u) : PlantKeeps s u where
  office := k.office.trans h.office
  panel := k.panel.trans h.panel
  noticeRoom := k.noticeRoom ∘ h.noticeRoom
  pendingKept := k.pendingKept ∘ h.pendingKept
  logRoom := k.logRoom ∘ h.logRoom
  numbersRun := k.numbersRun ∘ h.numbersRun
  poolRoom := k.poolRoom ∘ h.poolRoom
  pointer := k.pointer ∘ h.pointer
  orders := k.orders ∘ h.orders
  grants := k.grants ∘ h.grants

variable {s t : State}

/-! ### Updates these invariants are not about -/

theorem setScan (h : PlantKeeps s t) (b : Bay) (x : Option Scan) : PlantKeeps s (t.setScan b x) :=
  h.trans (of_same rfl rfl rfl rfl rfl rfl rfl rfl)
theorem setResidue (h : PlantKeeps s t) (b : Bay) (m : ResidueMap) : PlantKeeps s (t.setResidue b m) :=
  h.trans (of_same rfl rfl rfl rfl rfl rfl rfl rfl)
theorem setVisit (h : PlantKeeps s t) (b : Bay) (v : Option Visit) : PlantKeeps s (t.setVisit b v) :=
  h.trans (of_same rfl rfl rfl rfl rfl rfl rfl rfl)
theorem setPartway (h : PlantKeeps s t) (b : Bay) (p : Option (List Byte)) : PlantKeeps s (t.setPartway b p) :=
  h.trans (of_same rfl rfl rfl rfl rfl rfl rfl rfl)
theorem countFree (h : PlantKeeps s t) : PlantKeeps s t.countFree := h.trans (of_same rfl rfl rfl rfl rfl rfl rfl rfl)

/-! ### Lanes -/

/-- One lane replaced by one whose orders follow. -/
theorem ofLane (h : PlantKeeps s t) (b : Bay) (l : Lane) (ps : Vector Port 6) (hl : (t.lane b).OrdersFollow → l.OrdersFollow) :
    PlantKeeps s { t with lanes := t.lanes.set b l, ports := ps } :=
  { h with
    orders := fun hs c => by
      have ht := h.orders hs
      by_cases hc : b = c
      · subst hc; simpa [State.lane] using hl (ht b)
      · have hv : b.val ≠ c.val := fun e => hc (Fin.ext e)
        simpa [State.lane, hv] using ht c }

theorem setLane (h : PlantKeeps s t) (b : Bay) (l : Lane) : PlantKeeps s (t.setLane b l) :=
  h.ofLane b _ _ fun _ => ordersOf_follow _ l

/-- A lane amended in the state it is in keeps its orders in step. -/
theorem amendLane (h : PlantKeeps s t) (b : Bay) (l : Lane) (hl : l.st = (t.lane b).st) : PlantKeeps s (t.amendLane b l) :=
  h.ofLane b _ t.ports fun ht => by unfold Lane.OrdersFollow at *; rw [hl]; exact ht

theorem goNext (h : PlantKeeps s t) (b : Bay) (l : Lane) (hl : l.st = (t.lane b).st) : PlantKeeps s (t.goNext b l) := by
  unfold State.goNext State.nextOf
  dsimp only
  split
  · exact h.amendLane _ _ hl
  · exact h.countFree.amendLane _ _ hl
theorem beginSeating (h : PlantKeeps s t) (b : Bay) (l : Lane) : PlantKeeps s (t.beginSeating b l) := h.setLane b _
theorem appendEntry (h : PlantKeeps s t) (b : Bay) (e : QEntry) : PlantKeeps s (t.appendEntry b e) := h.setLane b _

/-! ### Records -/

theorem setRecords (h : PlantKeeps s t) (rs : List Comp) (hr : t.records.length ≤ 32 → rs.length ≤ 32) :
    PlantKeeps s (t.setRecords rs) := { h with poolRoom := fun hs => hr (h.poolRoom hs) }
theorem modRecord (h : PlantKeeps s t) (b : Bay) (k : Nat) (f : Comp → Comp) : PlantKeeps s (t.modRecord b k f) :=
  h.setRecords _ (by simp)
theorem modServed (h : PlantKeeps s t) (b : Bay) (f : Comp → Comp) : PlantKeeps s (t.modServed b f) := by
  unfold State.modServed
  split
  · exact h.modRecord _ _ _
  · exact h
theorem freeVisit (h : PlantKeeps s t) (b : Bay) : PlantKeeps s (t.freeVisit b) :=
  (h.setVisit b none).setRecords _ fun hr => (List.length_filter_le _ _).trans hr

/-! ### The step store -/

theorem setStore (h : PlantKeeps s t) (x : StepStore) (hx : t.PointerInWindow → x.first ≤ x.pointer ∧ x.pointer ≤ x.last) :
    PlantKeeps s { t with store := x } := { h with pointer := fun hs => hx (h.pointer hs) }
theorem setPin (h : PlantKeeps s t) (b : Bay) (i : Option StepIx) : PlantKeeps s (t.setPin b i) := h.setStore _ id

/-! ### Utilities -/

/-- A utility's record replaced by one without grants where it is out of service. -/
theorem setUtil (h : PlantKeeps s t) (u : UtilId) (x : Util)
    (hx : ((t.util u).inService = false → (t.util u).grants = []) → x.inService = false → x.grants = []) :
    PlantKeeps s (t.setUtil u x) :=
  { h with
    grants := fun hs v => by
      have ht := h.grants hs
      by_cases hv : u = v
      · subst hv; simpa using hx (ht u)
      · simpa [util_setUtil_other _ _ hv] using ht v }

theorem release (h : PlantKeeps s t) (b : Bay) : PlantKeeps s (t.release b).1 := by
  unfold State.release
  split
  · exact h
  · next u _ =>
    refine h.setUtil u _ fun ht hx => ?_
    simp [Util.drop, ht hx]

/-! ### Notices -/

theorem setNotices (h : PlantKeeps s t) (u : NoticeUnit) (hr : t.notices.Room → u.Room) (hk : t.notices.Kept → u.Kept) :
    PlantKeeps s (t.setNotices u) := { h with noticeRoom := fun hs => hr (h.noticeRoom hs), pendingKept := fun hs => hk (h.pendingKept hs) }
theorem raiseBay (h : PlantKeeps s t) (b : Bay) (e : Event) (he : e.kind.yard = false := by rfl) : PlantKeeps s (t.raiseBay b e) :=
  h.setNotices _ (NoticeUnit.room_raise _ _) fun hk => NoticeUnit.kept_raise hk _ _ (by
    simp [he, bayScope_ne_yard b])
theorem raiseYard (h : PlantKeeps s t) (e : Event) (he : e.kind.yard = true := by rfl) : PlantKeeps s (t.raiseYard e) :=
  h.setNotices _ (NoticeUnit.room_raise _ _) fun hk => NoticeUnit.kept_raise hk _ _ (by simp [he])

/-! ### Certificates -/

theorem setCerts (h : PlantKeeps s t) (u : CertUnit) (hl : t.certs.log.length ≤ 24 → u.log.length ≤ 24)
    (hn : t.certs.NumbersRun → u.NumbersRun) : PlantKeeps s (t.setCerts u) :=
  { h with logRoom := fun hs => hl (h.logRoom hs), numbersRun := fun hs => hn (h.numbersRun hs) }

/-- The certificate unit replaced by one of the same log and next number. -/
theorem setCertsSame (h : PlantKeeps s t) (u : CertUnit) (hl : u.log = t.certs.log := by rfl) (hn : u.next = t.certs.next := by rfl) :
    PlantKeeps s (t.setCerts u) :=
  h.setCerts u (by rw [hl]; exact id) fun k => k.drop 0 (by simpa using hl) hn

theorem judgeBacklog (h : PlantKeeps s t) : PlantKeeps s t.judgeBacklog := by
  unfold State.judgeBacklog
  dsimp only
  split
  · exact h
  · exact (h.setCertsSame _).raiseYard _
theorem enterAuditHold (h : PlantKeeps s t) (spent : Bool) (n : Nat) : PlantKeeps s (t.enterAuditHold spent n) :=
  (h.setCertsSame _).raiseYard _
theorem withhold (h : PlantKeeps s t) (b : Bay) (k : Nat) (f : Bool) : PlantKeeps s (t.withhold b k f) := by
  unfold State.withhold
  dsimp only
  split
  · exact ((h.setCertsSame _).modRecord _ _ _).enterAuditHold _ _
  · exact (h.setCertsSame _).modRecord _ _ _
theorem countIssue (h : PlantKeeps s t) (n : Nat) : PlantKeeps s (t.countIssue n) := by
  unfold State.countIssue
  dsimp only
  have h1 : PlantKeeps s (t.setCerts { t.certs with counter := satAdd Config.max8 t.certs.counter 1 }) := h.setCertsSame _
  split
  · exact h1
  split
  · exact h1.enterAuditHold _ _
  split
  · exact h1.enterAuditHold _ _
  · exact h1
theorem markCertified (h : PlantKeeps s t) (n : Nat) (r : Comp) : PlantKeeps s (t.markCertified n r) := by
  unfold State.markCertified
  dsimp only
  split
  · exact (h.modRecord _ _ _).appendEntry _ _
  · exact h.modRecord _ _ _
theorem logCert (h : PlantKeeps s t) {n : Nat} (r : Comp) (f : Bool) (hl : t.certs.log.length < 24) (hn : t.certs.next = some n) :
    PlantKeeps s (t.logCert n r f) :=
  h.setCerts _ (fun _ => by simpa using hl) fun k => k.append (c := t.fillCert n r f) hn rfl rfl
theorem issueTo (h : PlantKeeps s t) {n : Nat} (r : Comp) (f : Bool) (hi : t.canIssue = true) (hn : t.certs.next = some n) :
    PlantKeeps s (t.issueTo n r f) := by
  have hl : t.certs.log.length < 24 := by
    simp only [State.canIssue, Bool.and_eq_true, decide_eq_true_eq] at hi
    exact hi.1.2
  exact ((((h.logCert r f hl hn).markCertified _ _).raiseBay _ _).judgeBacklog).countIssue _

end PlantKeeps

/-! ## Tasks -/

open PlantKeeps in
/-- Every task keeps them. -/
theorem act_plantKeeps (t : Task) (s : State) : PlantKeeps s (act t s).1 := by
  have h0 := PlantKeeps.refl s
  cases t <;> simp only [act]
  case judge u =>
    unfold actJudge; dsimp only
    split
    · exact h0
    · split
      · next hin => exact h0.setUtil _ _ fun _ hout => by simp [Util.inService] at hin hout; simp_all
      · exact h0
  case granted b =>
    unfold actGranted; dsimp only
    split <;> split <;> first | exact h0 | exact h0.setLane _ _
  case back u => exact (h0.setUtil u { s.util u with returning := none } fun ht => ht).raiseYard (.utilityBack u _)
  case idle b =>
    unfold actIdle; dsimp only
    split
    · split
      · exact h0
      · split
        · split
          · exact h0
          · unfold State.takeWash; dsimp only
            split
            · exact ((h0.modRecord _ _ _).setResidue _ _).setLane _ _
            · exact ((h0.modRecord _ _ _).setResidue _ _).beginSeating _ _
        · unfold State.takeFill; dsimp only
          split
          · exact h0.setLane _ _
          · split
            · exact h0.setLane _ _
            · split
              · exact ((h0.modRecord _ _ _).setLane _ _).raiseBay _ _
              · split
                · exact (h0.modRecord _ _ _).setLane _ _
                · exact (h0.modRecord _ _ _).beginSeating _ _
    · exact h0
  case fetch b =>
    unfold actFetch; dsimp only
    generalize h2e : (if (s.lane b).fetched = 0 then (s.setPin b (some (s.lane b).index)).modServed b
        fun r => { r with dirty := none } else s.setPin b (some (s.lane b).index)) = s2
    have h2 : PlantKeeps s s2 ∧ s2.lane b = s.lane b := by
      subst h2e
      split
      · exact ⟨(h0.setPin _ _).modServed _ _, by simp⟩
      · exact ⟨h0.setPin _ _, rfl⟩
    obtain ⟨h2, hl⟩ := h2
    have hst : (s.lane b).st = (s2.lane b).st := by rw [hl]
    split
    · exact h0
    · split
      · exact h2.amendLane _ _ hst
      · split
        · exact h2.setLane _ _
        · exact h2.setLane _ _
        · split
          · exact h2.setLane _ _
          · exact h2.amendLane _ _ hst
        · split
          · exact (h2.setScan _ _).setLane _ _
          · exact h2.amendLane _ _ hst
        · exact h2.amendLane _ _ hst
  case claim b u => exact h0.setUtil _ _ fun ht => ht
  case fillWait b =>
    unfold actFillWait; dsimp only
    repeat' (first | exact h0.setLane _ _ | split)
  case abort b r => exact h0.release _
  case aborted b r => exact ((((h0.setPin _ _).setScan _ _).modServed _ _).setLane _ _).raiseBay _ _
  case endFill b e => exact h0.release _
  case fillEnded b e =>
    unfold actFillEnded; dsimp only
    refine setLane ?_ _ _
    split
    · exact h0.modServed _ _
    · refine raiseBay ?_ _ _
      unfold State.raiseFillExtra
      split <;> first | exact (h0.modServed _ _).raiseBay _ _ | exact h0.modServed _ _
  case stepEnd b => exact h0.release _
  case stepEnded b =>
    unfold actStepEnded; dsimp only
    have h1 := (h0.setPin b none).raiseBay b (.stepDone (s.servedIndex b) (s.lane b).index (s.stepOf b).kind (s.lane b).delivered)
    split
    · split
      · exact h1.setLane _ _
      · exact h1
    · exact h1
  case proceed b =>
    unfold actProceed; dsimp only
    split
    · exact h0
    · split
      · exact h0.setLane _ _
      · exact h0.goNext _ _ rfl
  case programEnd b =>
    unfold actProgramEnd; dsimp only
    split
    · split
      · exact h0
      · exact (h0.modServed _ _).raiseBay _ _
    · exact (h0.modServed _ _).raiseBay _ _
  case toIdle b => exact h0.setLane _ _
  case certify b k f =>
    unfold actCertify
    split
    · exact h0
    · split
      · exact h0.withhold _ _ _
      · next n hn =>
        split
        · next hi => exact h0.issueTo _ _ hi hn
        · exact h0.withhold _ _ _
  case drain =>
    unfold actDrain; dsimp only
    split
    · next w rest n _ hn =>
      split
      · next hi =>
        split
        · exact h0.setCertsSame _
        · exact (h0.setCertsSame _).issueTo _ _ hi hn
      · exact h0
    · exact h0
  case hold b c =>
    unfold actHold; dsimp only
    split
    · exact h0
    · split
      · exact (h0.setLane _ _).release _
      · exact h0.setLane _ _
  case unhold b c =>
    unfold actUnhold; dsimp only
    split
    · split
      · split
        · unfold State.resume State.resumeChecked; dsimp only
          repeat' (first | exact h0.setLane _ _ | exact h0.goNext _ _ rfl | split)
        · exact h0.setLane _ _
        · exact h0.setLane _ _
      · exact h0.setLane _ _
    · exact h0
  case modeChange l e c => exact h0.raiseYard _

/-- A cascade keeps them. -/
theorem PlantKeeps.settle {s t : State} (h : PlantKeeps s t) (ts : List Task) : PlantKeeps s (t.settle ts) :=
  settle_keeps (fun u => PlantKeeps s u) (fun t _ hu => hu.trans (act_plantKeeps t _)) ts t h

end Sys2Proof.Machine
end

section
/-! PROOFS. Lists of fields read whole (R185): every entry is in its table, or the list is refused. -/

namespace Sys2Proof.Machine

/-- A list reads as `ys` exactly when its entries read as the entries of `ys`. -/
theorem all?_eq_some_iff {α β : Type} (f : α → Option β) (xs : List α) (ys : List β) :
    all? f xs = some ys ↔ xs.map f = ys.map some := by
  induction xs generalizing ys with
  | nil => cases ys <;> simp [all?]
  | cons x xs ih =>
    cases hx : f x with
    | none => cases ys <;> simp [all?, hx]
    | some y =>
      cases hxs : all? f xs with
      | none =>
        have hno : ∀ zs : List β, xs.map f ≠ zs.map some := fun zs => by rw [Ne, ← ih zs, hxs]; simp
        cases ys <;> simp [all?, hx, hxs, hno]
      | some zs =>
        have hzs : xs.map f = zs.map some := (ih zs).1 hxs
        cases ys with
        | nil => simp [all?, hx, hxs]
        | cons a as =>
          have hinj : Function.Injective (List.map (some : β → Option β)) := List.map_injective_iff.2 (Option.some_injective β)
          simp [all?, hx, hxs, hzs, hinj.eq_iff]

/-- A list does not read exactly when one of its entries is in no table. -/
theorem all?_eq_none_iff {α β : Type} (f : α → Option β) (xs : List α) : all? f xs = none ↔ ∃ x ∈ xs, f x = none := by
  induction xs with
  | nil => simp [all?]
  | cons x xs ih =>
    cases hx : f x with
    | none => simp [all?, hx]
    | some y => cases hxs : all? f xs <;> simp [all?, hx, hxs, ← ih]

theorem all?_length {α β : Type} {f : α → Option β} {xs : List α} {ys : List β} (h : all? f xs = some ys) : ys.length = xs.length := by
  have := congrArg List.length ((all?_eq_some_iff f xs ys).1 h)
  simpa using this.symm

end Sys2Proof.Machine
end

section
/-! PROOFS. What the plant's messages and lines keep of the invariants. -/

namespace Sys2Proof.Machine

/-- A utility's record stored twice is the record stored last. -/
@[simp] theorem setUtil_setUtil (s : State) (u : UtilId) (x y : Util) : (s.setUtil u x).setUtil u y = s.setUtil u y := by
  simp [State.setUtil]

namespace PlantKeeps

variable {s t : State}

/-! ## Reports and signals -/

theorem countReport (h : PlantKeeps s t) (b : Bay) (r : Report) : PlantKeeps s (t.countReport b r) := by
  unfold State.countReport State.countRunning
  dsimp only
  repeat' (first | exact h.setLane _ _ | exact (h.modServed _ _).setLane _ _ | split)

theorem dropSeating (h : PlantKeeps s t) (b : Bay) : PlantKeeps s (t.dropSeating b) :=
  ((h.modServed _ _).raiseBay b (.fault .seatTimeout _ _)).setLane _ _

theorem endReport (h : PlantKeeps s t) (b : Bay) (e : ReportEnd) : PlantKeeps s (t.endReport b e) := by
  cases e
  case goesOn => exact h
  case seatTimeout => exact (h.dropSeating b).settle _
  all_goals exact h.settle _

theorem takeReport (h : PlantKeeps s t) (b : Bay) (r : Report) : PlantKeeps s (t.takeReport b r) := (h.countReport b r).endReport b _

theorem reportRow (h : PlantKeeps s t) (b : Bay) (flow fill temp : Byte) (e : ReportEnd) :
    PlantKeeps s (t.reportRow b flow fill temp e) := by
  unfold State.reportRow State.takeReportFor
  split
  · exact h
  · split
    · exact h.takeReport _ _
    · exact h

theorem takeSeated (h : PlantKeeps s t) (b : Bay) (k : Nat) : PlantKeeps s (t.takeSeated b k) := by
  have h1 := h.setLane b { t.lane b with seated := some k }
  unfold State.takeSeated
  dsimp only
  repeat' (first | exact h1 | exact h1.settle _ | split)

theorem takeLifted (h : PlantKeeps s t) (b : Bay) : PlantKeeps s (t.takeLifted b) := by
  have h1 := h.setLane b { t.lane b with seated := none }
  unfold State.takeLifted
  dsimp only
  split <;> first | exact h1 | exact h1.settle _

theorem takeDrainClear (h : PlantKeeps s t) (b : Bay) : PlantKeeps s (t.takeDrainClear b) := by
  unfold State.takeDrainClear
  split
  · exact h.settle _
  · exact h

theorem takeHighLevel (h : PlantKeeps s t) (b : Bay) : PlantKeeps s (t.takeHighLevel b) := by
  unfold State.takeHighLevel
  repeat' (first | exact h | exact h.settle _ | split)

/-! ## Readings and verdicts -/

theorem actOnVerdict (h : PlantKeeps s t) (b : Bay) (j : Judgement) : PlantKeeps s (t.actOnVerdict b j) := by
  cases j
  case pass cap => exact (h.setLane _ _).settle _
  case rewash => exact (h.modServed _ _).settle _
  case refer => exact ((h.modServed _ _).raiseBay b (.referral _)).settle _

theorem giveVerdict (h : PlantKeeps s t) (b : Bay) (x : Scan) : PlantKeeps s (t.giveVerdict b x) :=
  ((((h.modServed _ _).raiseBay b (.verdict ..)).setScan _ _).setPin _ _).actOnVerdict b _

theorem takeProbe (h : PlantKeeps s t) (b : Bay) (g : Grade) : PlantKeeps s (t.takeProbe b g) := by
  unfold State.takeProbe
  dsimp only
  split
  · split
    · exact ((h.setResidue _ _).setLane _ _).setScan _ _
    · exact ((h.setResidue _ _).setLane _ _).giveVerdict _ _
  · exact h

theorem takeMessage (h : PlantKeeps s t) (b : Bay) (m : PortMessage) : PlantKeeps s (t.takeMessage b m) := by
  cases m
  case report r => exact h.takeReport b r
  case seated k => exact h.takeSeated b k
  case lifted => exact h.takeLifted b
  case drainClear => exact h.takeDrainClear b
  case highLevel => exact h.takeHighLevel b
  case probe g => exact h.takeProbe b g

theorem takeMessage? (h : PlantKeeps s t) (b : Bay) (m : Option PortMessage) : PlantKeeps s (t.takeMessage? b m) := by
  cases m
  case none => exact h
  case some m => exact h.takeMessage b m

theorem portByte (h : PlantKeeps s t) (b : Bay) (x : Byte) : PlantKeeps s (t.portByte b x) := by
  unfold State.portByte
  dsimp only
  repeat' (first | exact h | exact h.setPartway _ _ | exact (h.setPartway _ _).takeMessage? _ _ | split)

theorem ordersSent (h : PlantKeeps s t) (b : Bay) : PlantKeeps s (t.ordersSent b) := by
  unfold State.ordersSent
  dsimp only
  split
  · exact h
  · exact h.trans (of_same rfl rfl rfl rfl rfl rfl rfl rfl)

/-! ## Utilities -/

theorem suspendAll (h : PlantKeeps s t) (cs : List Claim) : PlantKeeps s (cs.foldl (fun q c => q.suspend c.lane) t) := by
  induction cs generalizing t with
  | nil => exact h
  | cons c cs ih => exact ih (h.setLane _ _)

/-- A utility's record replaced, with the effect on its service (R117): one that goes out of service loses its grants. -/
theorem storeService (h : PlantKeeps s t) (u : UtilId) (x : Util) (plantFault : Bool) (hx : x.grants = (t.util u).grants) :
    PlantKeeps s (t.storeService u x plantFault).1 := by
  unfold State.storeService
  dsimp only
  split
  · next hin hout =>
    unfold State.loseUtility
    rw [util_setUtil, setUtil_setUtil]
    exact ((h.setUtil u x.lose fun _ _ => rfl).suspendAll _).raiseYard (.utilityLost ..)
  · next hout hin =>
    rw [setUtil_setUtil]
    exact h.setUtil u _ fun _ hno => absurd (hin.symm.trans hno) (by decide)
  · next hin => exact h.setUtil u x fun _ hno => absurd (hin.symm.trans hno) (by decide)
  · next hout _ => exact h.setUtil u x fun hno _ => hx ▸ hno hout

theorem putFault (h : PlantKeeps s t) (u : UtilId) (v : Bool) : PlantKeeps s (t.putFault u v) :=
  (h.storeService u { t.util u with fault := v } true rfl).settle _

theorem setUtility (h : PlantKeeps s t) (u : UtilId) (capacity : Nat) (offline : Bool) (cargo : Option Cargo) :
    PlantKeeps s (t.setUtility u capacity offline cargo) := 
  (h.storeService u { t.util u with cargo := cargo, capacity := capacity, offline := offline } false rfl).settle _

/-! ## The mode -/

theorem setMode (h : PlantKeeps s t) (m : Mode) : PlantKeeps s { t with mode := m } := h.trans (of_same rfl rfl rfl rfl rfl rfl rfl rfl)

theorem parkLanes (h : PlantKeeps s t) : PlantKeeps s t.parkLanes := by
  have hfold : ∀ (bs : List Bay) (t : State), PlantKeeps s t →
      PlantKeeps s (bs.foldl (fun t b => t.setLane b (t.lane b).park) t) := by
    intro bs
    induction bs with
    | nil => exact fun _ h => h
    | cons b bs ih => exact fun t h => ih _ (h.setLane _ _)
  exact hfold allBays t h

theorem changeMode (h : PlantKeeps s t) (m : Mode) (cause : ModeCause) : PlantKeeps s (t.changeMode m cause) := by
  unfold State.changeMode
  dsimp only
  split
  · exact ((h.setMode m).parkLanes).settle _
  · exact (h.setMode m).settle _

theorem stopRise (h : PlantKeeps s t) : PlantKeeps s t.stopRise := by
  have h1 : PlantKeeps s { t with stopLevel := true } := h.trans (of_same rfl rfl rfl rfl rfl rfl rfl rfl)
  unfold State.stopRise
  dsimp only
  split
  · exact h1.changeMode _ _
  · exact h1

theorem putMark (h : PlantKeeps s t) (m : Fin 32) (v : Bool) : PlantKeeps s (t.putMark m v) := by
  have h1 : PlantKeeps s { t with marks := t.marks.set m v } := h.trans (of_same rfl rfl rfl rfl rfl rfl rfl rfl)
  unfold State.putMark
  dsimp only
  split
  · exact h1.settle _
  · split
    · exact h1.changeMode _ _
    · exact h1

theorem restarted (s : State) : PlantKeeps s s.restarted where
  office := rfl
  panel := rfl
  noticeRoom _ := ⟨by simp [State.restarted], by simp [State.restarted]⟩
  pendingKept _ sc := by simp [State.restarted, NoticeUnit.set, NoticeUnit.SetKept]
  logRoom := id
  numbersRun := id
  poolRoom _ := Nat.zero_le 32
  pointer _ := ⟨Fin.zero_le _, Fin.zero_le _⟩
  orders _ b := by simp [State.restarted, State.lane, State.restartLane, Lane.reset, Lane.OrdersFollow, Orders.reset]
  grants _ u _ := by simp [State.restarted, State.util, Util.restart]

end PlantKeeps

end Sys2Proof.Machine
end

section
/-! PROOFS. What requests, link events and whole steps keep of the invariants: the capacities, pending sets and consecutive numbers. -/

namespace Sys2Proof.Machine

/-! ## Requests at their owners -/

theorem writeOne_window (t : StepStore) (d : Descriptor) :
    (t.writeOne d).1.first = t.first ∧ (t.writeOne d).1.last = t.last ∧
      (t.writeOne d).1.pointer = if t.pointer = t.last then t.first else t.pointer + 1 := by
  unfold StepStore.writeOne StepStore.advance
  split <;> exact ⟨rfl, rfl, rfl⟩

/-- A pointer that moves on within its window stays in it (R45). -/
theorem next_in_window {first last p : StepIx} (h : first ≤ p ∧ p ≤ last) :
    first ≤ (if p = last then first else p + 1) ∧ (if p = last then first else p + 1) ≤ last := by
  obtain ⟨h1, h2⟩ := h
  split
  · exact ⟨le_rfl, h1.trans h2⟩
  · next hne =>
    have hlt : p < last := lt_of_le_of_ne h2 hne
    have hv : (p + 1).val = p.val + 1 := Fin.val_add_one_of_lt (lt_of_lt_of_le hlt (Fin.le_last last))
    simp only [Fin.le_def, Fin.lt_def, hv] at *
    omega

theorem writeAll_window (ds : List Descriptor) (t : StepStore) (h : t.first ≤ t.pointer ∧ t.pointer ≤ t.last) :
    (t.writeAll ds).1.first ≤ (t.writeAll ds).1.pointer ∧ (t.writeAll ds).1.pointer ≤ (t.writeAll ds).1.last := by
  induction ds generalizing t with
  | nil => exact h
  | cons d ds ih =>
    obtain ⟨hf, hl, hp⟩ := writeOne_window t d
    refine ih _ ?_
    rw [hf, hl, hp]
    exact next_in_window h

namespace PlantKeeps

variable {s t : State}

theorem retire (h : PlantKeeps s t) (k : Nat) : PlantKeeps s (t.retire k) :=
  (h.setCerts { t.certs with log := t.certs.log.drop k } (fun hl => le_trans (by simp) hl) fun hn => hn.drop k rfl rfl).judgeBacklog

theorem clearBay (h : PlantKeeps s t) (b : Bay) : PlantKeeps s (t.clearBay b) :=
  ((((((h.release b).setPin _ _).setScan _ _).setLane _ _).setCertsSame _).freeVisit b).settle _

theorem extend (h : PlantKeeps s t) (b : Bay) (k : Nat) (last : StepIx) : PlantKeeps s (t.extend b k last).1 := by
  have h1 := h.modRecord b k fun r => r.extended last
  unfold State.extend
  dsimp only
  split
  · split
    · exact (h1.goNext _ _ rfl).settle _
    · exact h1.setLane _ _
    · exact h1
  · exact h1

theorem orderFill (h : PlantKeeps s t) (b : Bay) (r : Comp) (o : FillOrder) : PlantKeeps s (t.orderFill b r o) := by
  have h1 := h.modRecord b r.index fun x => { x with order := some o }
  unfold State.orderFill
  dsimp only
  split
  · exact (h1.appendEntry _ _).settle _
  · exact h1

theorem judgeOrder (h : PlantKeeps s t) (b : Bay) (r : Comp) (o : FillOrder) : PlantKeeps s (t.judgeOrder b r o).1 := by
  unfold State.judgeOrder
  repeat' (first | exact h | exact h.orderFill _ _ _ | split)

theorem dropFill (h : PlantKeeps s t) (b : Bay) (k : Nat) : PlantKeeps s (t.dropFill b k) :=
  ((h.modRecord _ _ _).setLane _ _).settle _

end PlantKeeps

open PlantKeeps in
/-- Every request's owner keeps them. -/
theorem answer_plantKeeps (r : Request) (s : State) : PlantKeeps s (answer r s).1 := by
  have h0 := PlantKeeps.refl s
  cases r <;> simp only [answer]
  case setMode m =>
    unfold answerSetMode; dsimp only
    repeat' (first | exact h0 | exact h0.changeMode _ _ | split)
  case restart =>
    unfold answerRestart; dsimp only
    split
    · exact .restarted s
    · exact (PlantKeeps.restarted s).raiseYard (.modeChange ..)
  case linkSetup o v m =>
    unfold answerLinkSetup; dsimp only
    split
    · split
      · exact h0.setNotices _ (fun hr => NoticeUnit.room_setUp hr _ _ _) fun hk => NoticeUnit.kept_setUp hk _ _ _
      · exact h0
    · exact h0
  case setClock c => exact h0.setCertsSame _
  case setTiming =>
    unfold answerSetTiming; split
    · exact h0
    · exact .of_same rfl rfl rfl rfl rfl rfl rfl rfl
  case setAudit p h =>
    unfold answerSetAudit; split
    · exact (h0.setCertsSame _).judgeBacklog
    · exact h0
  case setCertBase n =>
    unfold answerSetCertBase
    split
    · exact h0
    · split
      · exact h0
      · next hlog =>
        split
        · exact h0
        · exact h0.setCerts _ id fun _ => .of_nil (by simpa using hlog)
  case mark o m =>
    unfold answerMark; dsimp only
    repeat' (first | exact h0 | exact h0.putMark _ _ | split)
  case loadCarryover r es =>
    unfold answerLoadCarryover; split
    · exact .of_same rfl rfl rfl rfl rfl rfl rfl rfl
    · exact h0
  case readCarryover r => unfold answerReadCarryover; split <;> exact h0
  case loadVerdict f os =>
    unfold answerLoadVerdict; split
    · exact h0
    · split
      · exact h0
      · exact .of_same rfl rfl rfl rfl rfl rfl rfl rfl
  case readVerdict f n => unfold answerReadVerdict; split <;> exact h0
  case stepWindow f l =>
    unfold answerStepWindow; split
    · next hle => exact h0.setStore _ fun _ => ⟨le_rfl, hle⟩
    · exact h0
  case stepWrite ss =>
    unfold answerStepWrite; split
    · exact h0
    · split
      · exact h0
      · exact h0.setStore _ (writeAll_window _ _)
  case stepRead i n => unfold answerStepRead; split <;> exact h0
  case setUtility u c o g =>
    unfold answerSetUtility; dsimp only
    repeat' (first | exact h0 | exact h0.setUtility _ _ _ _ | split)
  case admitVisit b f p ps =>
    unfold answerAdmit; dsimp only
    split
    · exact h0
    split
    · next b u qs _ _ hqs =>
      split
      · exact h0
      split
      · exact h0
      split
      · exact h0
      split
      · exact h0
      · next hroom =>
        refine (h0.setVisit b _).setRecords _ fun hr => ?_
        have hlen := all?_length hqs
        simp only [State.freeRecords, Config.records, not_lt] at hroom
        simp only [freshRecords, records_setVisit, List.length_append, List.length_map, List.length_zipIdx] at hr ⊢
        omega
    · exact h0
  case depart b =>
    unfold answerDepart; dsimp only
    repeat' (first | exact h0 | exact (h0.setLane _ _).freeVisit _ | split)
  case bayClear b =>
    unfold answerBayClear
    repeat' (first | exact h0 | exact h0.clearBay _ | split)
  case assign b i h m l c =>
    unfold answerAssign
    split
    · exact h0
    split
    · split
      · exact h0
      · split
        · exact ((h0.modRecord _ _ _).appendEntry _ _).settle _
        · exact h0
    · exact h0
  case extend b i n =>
    unfold answerExtend
    repeat' (first | exact h0 | exact h0.extend _ _ _ | split)
  case abort b =>
    unfold answerAbort
    repeat' (first | exact h0 | exact h0.settle _ | split)
  case hold b =>
    unfold answerHold; dsimp only
    repeat' (first | exact h0 | exact h0.settle _ | split)
  case resume b =>
    unfold answerResume; dsimp only
    repeat' (first | exact h0 | exact h0.settle _ | split)
  case orderFill b i c t =>
    unfold answerOrderFill
    repeat' (first | exact h0 | exact h0.judgeOrder _ _ _ | split)
  case cancelFill b i =>
    unfold answerCancelFill
    split
    · exact h0
    split
    · split
      · exact h0
      · split
        · exact h0
        split
        · exact h0.dropFill _ _
        split
        · exact h0.settle _
        · exact h0.modRecord _ _ _
    · exact h0
  case ruleReferral b i r c =>
    unfold answerRuleReferral
    split
    · exact h0
    split
    · split
      · exact h0
      · split
        · dsimp only
          split
          · exact (h0.modRecord _ _ _).settle _
          · exact h0.modRecord _ _ _
        · exact h0
    · exact h0
  case certRead n => unfold answerCertRead; split <;> exact h0
  case certRetire k =>
    unfold answerCertRetire; dsimp only
    repeat' (first | exact h0 | exact h0.retire _ | exact (h0.retire _).settle _ | split)
  case auditRelease =>
    unfold answerAuditRelease; dsimp only
    repeat' (first | exact h0 | exact (h0.setCertsSame _).settle _ | split)
  case bayStatus b => unfold answerBayStatus; split <;> exact h0
  case compartmentStatus b i =>
    unfold answerCompartmentStatus
    repeat' (first | exact h0 | split)
  case mapRead =>
    unfold answerMapRead; dsimp only
    repeat' (first | exact h0 | split)
  case pendingRead sc => unfold answerPendingRead; split <;> exact h0
  case pendingClear sc ks =>
    unfold answerPendingClear; dsimp only
    split
    · split
      · exact h0
      · exact h0.setNotices _ (fun hr => NoticeUnit.room_clearKinds hr _ _) fun hk => NoticeUnit.kept_clearKinds hk _ _
    · exact h0
  all_goals exact h0

/-! ## Links and whole events -/

/-- The invariants of `PlantKeeps`, with each link's hold on its one request. -/
structure Keeps (s t : State) : Prop where
  hands : s.HandsKept → t.HandsKept
  noticeRoom : s.notices.Room → t.notices.Room
  pendingKept : s.notices.Kept → t.notices.Kept
  logRoom : s.certs.log.length ≤ 24 → t.certs.log.length ≤ 24
  numbersRun : s.certs.NumbersRun → t.certs.NumbersRun
  poolRoom : s.records.length ≤ 32 → t.records.length ≤ 32
  pointer : s.PointerInWindow → t.PointerInWindow
  orders : (∀ b, (s.lane b).OrdersFollow) → ∀ b, (t.lane b).OrdersFollow
  grants : (∀ u, (s.util u).inService = false → (s.util u).grants = []) → ∀ u, (t.util u).inService = false → (t.util u).grants = []

theorem PlantKeeps.keeps {s t : State} (h : PlantKeeps s t) : Keeps s t where
  hands hs := by unfold State.HandsKept; rw [h.office, h.panel]; exact hs
  noticeRoom := h.noticeRoom
  pendingKept := h.pendingKept
  logRoom := h.logRoom
  numbersRun := h.numbersRun
  poolRoom := h.poolRoom
  pointer := h.pointer
  orders := h.orders
  grants := h.grants

theorem PlantKeeps.link {s t : State} (h : PlantKeeps s t) (l : LinkId) : t.link l = s.link l := by
  cases l
  · exact h.office
  · exact h.panel

namespace Keeps

variable {s t u : State}

theorem refl (s : State) : Keeps s s := (PlantKeeps.refl s).keeps

theorem trans (h : Keeps s t) (k : Keeps t u) : Keeps s u where
  hands := k.hands ∘ h.hands
  noticeRoom := k.noticeRoom ∘ h.noticeRoom
  pendingKept := k.pendingKept ∘ h.pendingKept
  logRoom := k.logRoom ∘ h.logRoom
  numbersRun := k.numbersRun ∘ h.numbersRun
  poolRoom := k.poolRoom ∘ h.poolRoom
  pointer := k.pointer ∘ h.pointer
  orders := k.orders ∘ h.orders
  grants := k.grants ∘ h.grants

/-- A link replaced by one that keeps hold of its request. -/
theorem setLink (h : Keeps s t) (l : LinkId) (x : Link) (hx : (t.link l).HandKept → x.HandKept) : Keeps s (t.setLink l x) := by
  cases l
  · exact { h with hands := fun hs => ⟨hx (h.hands hs).1, (h.hands hs).2⟩ }
  · exact { h with hands := fun hs => ⟨(h.hands hs).1, hx (h.hands hs).2⟩ }

end Keeps

/-! ### A link's hold on its request -/

/-- The hold is decided by four fields. -/
theorem Link.HandKept.of_same {x y : Link} (h : x.HandKept) (hand : y.inHand = x.inHand) (reply : y.reply = x.reply)
    (sending : y.sendsReply = x.sendsReply) (buffer : y.buffer.isSome = true → x.buffer.isSome = true ∨ x.inHand = true) : y.HandKept := by
  obtain ⟨h1, h2, h3⟩ := h
  refine ⟨by rw [hand, reply, sending, h1], by rw [reply, sending]; exact h2, fun hb => ?_⟩
  rw [hand]
  exact (buffer hb).elim h3 id

theorem fail_fields (x : Link) (reason : RejectReason) :
    (x.fail reason).assembly = x.assembly ∧ (x.fail reason).gapTimer = x.gapTimer ∧ (x.fail reason).buffer = x.buffer ∧
      (x.fail reason).inHand = x.inHand ∧ (x.fail reason).reply = x.reply ∧ (x.fail reason).sending = x.sending := by
  unfold Link.fail
  split <;> exact ⟨rfl, rfl, rfl, rfl, rfl, rfl⟩

theorem handKept_fail {x : Link} (h : x.HandKept) (reason : RejectReason) : (x.fail reason).HandKept := by
  obtain ⟨-, -, hb, hh, hr, hs⟩ := fail_fields x reason
  exact h.of_same hh hr (by unfold Link.sendsReply; rw [hs]) (by rw [hb]; exact .inl)

theorem handKept_hunt {x : Link} (h : x.HandKept) : x.hunt.HandKept := h.of_same rfl rfl rfl .inl

/-- A reply made where no request was in hand is the one reply of the link. -/
theorem handKept_answer {x : Link} (h : x.HandKept) (hfree : x.inHand = false) (f : Frame) : (x.answer f).HandKept := by
  obtain ⟨h1, -, -⟩ := h
  rw [hfree] at h1
  have hs : x.sendsReply = false := by
    cases hr : x.sendsReply
    · rfl
    · simp [hr] at h1
  refine ⟨by simp [Link.answer], fun _ => ?_, fun _ => rfl⟩
  exact hs

theorem handKept_choose {x : Link} (h : x.HandKept) : x.choose.HandKept := by
  obtain ⟨h1, h2, h3⟩ := h
  unfold Link.choose
  unfold Link.HandKept Link.sendsReply at *
  split
  · exact ⟨h1, h2, h3⟩
  · next hs =>
    simp only [hs] at h1 h2
    split
    · next hr _ => simp_all
    · next f hr _ => simp_all
    · next r hr _ => simp_all
    · next f r hr _ => split <;> simp_all

/-- The frame's last byte leaves; the link's buffer then goes to be taken where no request is in hand. -/
theorem handKept_sent {x : Link} (h : x.HandKept) :
    x.sent.buffer = x.buffer ∧ (x.sent.buffer = none ∨ x.sent.inHand = true → x.sent.HandKept) ∧
      { x.sent with buffer := none }.HandKept := by
  obtain ⟨h1, h2, h3⟩ := h
  unfold Link.sent
  unfold Link.HandKept Link.sendsReply at *
  split
  · next f hs =>
    simp only [hs] at h1 h2
    have hr : x.reply = none := Option.not_isSome_iff_eq_none.1 fun hr => Bool.noConfusion (h2 hr)
    refine ⟨rfl, fun hb => ?_, by simp [hr]⟩
    rcases hb with hb | hb
    · exact ⟨by simp [hr], by simp, fun hx => absurd hx (by rw [show x.buffer = none from hb]; decide)⟩
    · cases hb
  · next r hs => simp only [hs] at h1 h2; exact ⟨rfl, fun _ => ⟨h1, by simp, h3⟩, h1, by simp, by simp⟩
  · next n hs => simp only [hs] at h1 h2; exact ⟨rfl, fun _ => ⟨h1, by simp, h3⟩, h1, by simp, by simp⟩
  · next hs => simp only [hs] at h1 h2; exact ⟨rfl, fun _ => by simp only [hs]; exact ⟨h1, by simp, h3⟩, by simp only [hs]; exact ⟨h1, by simp, by simp⟩⟩

namespace Keeps

variable {s t : State}

theorem serve (s : State) (l : LinkId) (kind : Byte) (x : Reading) : PlantKeeps s (s.serve l kind x).1 := by
  unfold State.serve
  split
  · exact .refl s
  · exact .refl s
  · split
    · exact answer_plantKeeps _ s
    · exact .refl s

theorem takeFrame (h : Keeps s t) (l : LinkId) (kind tag : Byte) (x : Reading) (hfree : (t.link l).inHand = false) :
    Keeps s (t.takeFrame l kind tag x) := by
  have hp := serve t l kind x
  refine (h.trans hp.keeps).setLink l _ fun hk => ?_
  exact handKept_answer hk (by rw [hp.link l]; exact hfree) _

theorem arrive (h : Keeps s t) (l : LinkId) (f : Frame) (x : Reading) : Keeps s (t.arrive l f x) := by
  unfold State.arrive
  dsimp only
  split
  · exact h.setLink l _ fun hk => handKept_fail hk _
  · split
    · next hh => exact h.setLink l _ fun hk => hk.of_same rfl rfl rfl fun _ => .inr hh
    · next hh => exact h.takeFrame l _ _ _ (by simpa using hh)

theorem hunt (h : Keeps s t) (l : LinkId) : Keeps s (t.setLink l (t.link l).hunt) := h.setLink l _ handKept_hunt
theorem fail (h : Keeps s t) (l : LinkId) (reason : RejectReason) : Keeps s (t.setLink l ((t.link l).fail reason)) :=
  h.setLink l _ fun hk => handKept_fail hk reason
theorem huntFail (h : Keeps s t) (l : LinkId) (reason : RejectReason) : Keeps s (t.setLink l ((t.link l).hunt.fail reason)) :=
  h.setLink l _ fun hk => handKept_fail (handKept_hunt hk) reason

theorem linkByte (h : Keeps s t) (l : LinkId) (b : Byte) : Keeps s (t.linkByte l b) := by
  have same : ∀ (a : Assembly) (g : Bool), Keeps s (t.setLink l { t.link l with assembly := a, gapTimer := g }) :=
    fun a g => h.setLink l _ fun hk => hk.of_same rfl rfl rfl .inl
  unfold State.linkByte
  dsimp only
  split
  · split
    · exact same _ _
    · exact h
  · split
    · exact same _ _
    · exact h.huntFail l _
  · exact same _ _
  · split
    · exact same _ _
    · unfold State.judgeFrame
      dsimp only
      split
      · split
        · split
          · exact (h.hunt l).arrive l _ _
          · exact (h.hunt l).fail l _
        · exact h.hunt l
      · exact (h.hunt l).fail l _

theorem linkGap (h : Keeps s t) (l : LinkId) : Keeps s (t.linkGap l) := by
  unfold State.linkGap
  dsimp only
  split
  · exact h
  · exact h.huntFail l _

theorem frameError (h : Keeps s t) (l : LinkId) (e : FrameError) : Keeps s (t.frameError l e) := by
  unfold State.frameError
  dsimp only
  split
  · exact h
  · exact h.huntFail l _

theorem frameSent (h : Keeps s t) (l : LinkId) : Keeps s (t.frameSent l) := by
  unfold State.frameSent
  dsimp only
  split
  · split
    · next hh => exact h.setLink l _ fun hk => (handKept_sent hk).2.1 (.inr hh)
    · next hh =>
      exact (h.setLink l _ fun hk => (handKept_sent hk).2.2).takeFrame l _ _ _ (by simpa using hh)
  · next hb => exact h.setLink l _ fun hk => (handKept_sent hk).2.1 (.inl hb)

theorem chooseNotice (h : Keeps s t) : Keeps s t.chooseNotice := by
  unfold State.chooseNotice
  split
  · exact h
  · next hs =>
    split
    · exact h
    · next n v hv =>
      have h1 : Keeps s (t.setLink .office { t.office with sending := some (.notice n) }) :=
        h.setLink .office _ fun hk => hk.of_same rfl rfl (by unfold Link.sendsReply; rw [show (t.link .office).sending = none from hs]) .inl
      exact { h1 with
        noticeRoom := fun hr => NoticeUnit.room_take hv (h.noticeRoom hr)
        pendingKept := fun hk => NoticeUnit.kept_take hv (h.pendingKept hk) }

/-- Each free transmitter's choice keeps them. -/
theorem choose (h : Keeps s t) : Keeps s t.choose :=
  ((h.setLink .office _ handKept_choose).setLink .panel _ handKept_choose).chooseNotice

/-- An event keeps what its effect keeps, whether the reset line is held or not. -/
theorem live {f : State → State} (h : Keeps s t) (hf : Keeps t (f t)) : Keeps s (t.live f) := by
  unfold State.live
  split
  · exact h
  · exact h.trans hf.choose

/-- A state whose blocks stand at reset-line values keeps every invariant. -/
theorem of_reset {s t : State} (office : t.office = Link.reset) (panel : t.panel = Link.reset) (notices : t.notices = NoticeUnit.reset)
    (certs : t.certs = CertUnit.reset) (records : t.records = []) (store : t.store = StepStore.reset)
    (lanes : t.lanes = State.reset.lanes) (utils : ∀ u, (t.util u).grants = []) : Keeps s t where
  hands _ := by unfold State.HandsKept; rw [office, panel]; unfold Link.HandKept; decide
  noticeRoom _ := by rw [notices]; unfold NoticeUnit.Room; decide
  pendingKept _ := by rw [notices]; unfold NoticeUnit.Kept NoticeUnit.SetKept; decide
  logRoom _ := by rw [certs]; exact Nat.zero_le 24
  numbersRun _ := .of_nil (by rw [certs]; rfl)
  poolRoom _ := by rw [records]; exact Nat.zero_le 32
  pointer _ := by unfold State.PointerInWindow; rw [store]; decide
  orders _ := by unfold State.lane Lane.OrdersFollow; rw [lanes]; decide
  grants _ u _ := utils u

end Keeps

/-- Every row of the table has a next state, and keeps the invariants. -/
theorem exec_keeps (c : Instr) (s : State) : ∃ t, exec c s = .next t ∧ Keeps s t := by
  have h0 := Keeps.refl s
  have p0 := PlantKeeps.refl s
  cases hr : asRequest c with
  | some q =>
    obtain ⟨l, tag, r⟩ := q
    exact ⟨_, exec_asRequest hr s, h0.live (h0.arrive l _ _)⟩
  | none =>
    cases c <;> simp only [asRequest, reduceCtorEq] at hr
    case unknownKind l tag kind body => exact ⟨_, rfl, h0.live (h0.arrive l _ _)⟩
    case reject l e => exact ⟨_, rfl, h0.live (h0.frameError l e)⟩
    case gap l => exact ⟨_, rfl, h0.live (h0.linkGap l)⟩
    case frameSent l => exact ⟨_, rfl, h0.live (h0.frameSent l)⟩
    case bayReport b flow fill temp => exact ⟨_, rfl, h0.live (p0.takeMessage? b _).keeps⟩
    case seated b x => exact ⟨_, rfl, h0.live (p0.takeMessage? b _).keeps⟩
    case lifted b => exact ⟨_, rfl, h0.live (p0.takeMessage b _).keeps⟩
    case drainClear b => exact ⟨_, rfl, h0.live (p0.takeMessage b _).keeps⟩
    case highLevel b => exact ⟨_, rfl, h0.live (p0.takeMessage b _).keeps⟩
    case probe b x => exact ⟨_, rfl, h0.live (p0.takeMessage? b _).keeps⟩
    case bayPortTimeout b => exact ⟨_, rfl, h0.live (p0.setPartway b none).keeps⟩
    case bayOrdersSent b => exact ⟨_, rfl, h0.live (p0.ordersSent b).keeps⟩
    case stopLineRise =>
      have hp : PlantKeeps s (s.stopPin true) := .of_same rfl rfl rfl rfl rfl rfl rfl rfl
      exact ⟨_, rfl, hp.keeps.live (PlantKeeps.refl _).stopRise.keeps⟩
    case stopLineFall =>
      have hp : PlantKeeps s (s.stopPin false) := .of_same rfl rfl rfl rfl rfl rfl rfl rfl
      have hf : PlantKeeps (s.stopPin false) (s.stopPin false).stopFall := .of_same rfl rfl rfl rfl rfl rfl rfl rfl
      exact ⟨_, rfl, hp.keeps.live hf.keeps⟩
    case faultLineRise u =>
      have hp : PlantKeeps s (s.faultPin u true) := .of_same rfl rfl rfl rfl rfl rfl rfl rfl
      exact ⟨_, rfl, hp.keeps.live ((PlantKeeps.refl _).putFault u true).keeps⟩
    case faultLineFall u =>
      have hp : PlantKeeps s (s.faultPin u false) := .of_same rfl rfl rfl rfl rfl rfl rfl rfl
      exact ⟨_, rfl, hp.keeps.live ((PlantKeeps.refl _).putFault u false).keeps⟩
    case minuteTick => exact ⟨_, rfl, h0.live (p0.setCertsSame _).keeps⟩
    case resetLineAssert => exact ⟨_, rfl, .of_reset rfl rfl rfl rfl rfl rfl rfl fun u => by cases u <;> rfl⟩
    case resetLineRelease straps =>
      refine ⟨_, rfl, ?_⟩
      unfold State.resetRelease
      split
      · exact .of_reset rfl rfl rfl rfl rfl rfl rfl fun u => by simp [State.util, State.released, Util.reset]
      · exact h0
    case takeWashEntry b => exact ⟨_, rfl, h0.live (by split; exacts [(p0.settle _).keeps, h0])⟩
    case takeFillEntry b => exact ⟨_, rfl, h0.live (by split; exacts [(p0.settle _).keeps, h0])⟩
    case utilityGrant u => exact ⟨_, rfl, h0.live (p0.settle _).keeps⟩
    case frameByteReceived l x => exact ⟨_, rfl, h0.live (h0.linkByte l x)⟩
    case portByteReceived b x => exact ⟨_, rfl, h0.live (p0.portByte b x).keeps⟩
    all_goals exact ⟨_, rfl, h0.live (p0.reportRow _ _ _ _ _).keeps⟩

/-- Every step keeps the invariants. -/
theorem step_keeps {s t : State} (h : step s = .next t) : Keeps s t := by
  unfold step at h
  split at h
  · obtain rfl : s = t := by simpa using h
    exact .refl s
  · next c rest _ =>
    have hp : PlantKeeps s { s with pending := rest } := .of_same rfl rfl rfl rfl rfl rfl rfl rfl
    obtain ⟨t', ht', k⟩ := exec_keeps c { s with pending := rest }
    obtain rfl : t' = t := by simpa [ht'] using h
    exact hp.keeps.trans k

/-- Settles O57: each of the six invariants is one that every step keeps. -/
theorem everyStepKeepsTheCapacities : Obligations.EveryStepKeepsTheCapacities := fun _ _ h =>
  have k := step_keeps h
  ⟨k.noticeRoom, k.logRoom, k.poolRoom, k.pointer, k.numbersRun, k.pendingKept⟩

end Sys2Proof.Machine
end

section
/-! PROOFS. Hold causes: which tasks set and clear them, and that every step keeps them in step with the mode and the marks. -/

namespace Sys2Proof.Machine

/-! ## Cascades, task by task -/

/-- What a cascade keeps of its state and its waiting tasks together holds of the state it ends in. -/
theorem settle_induction {P : State → List Task → Prop} {Q : State → Prop}
    (step : ∀ t ts s, P s (t :: ts) → P (act t s).1 ((act t s).2 ++ ts)) (done : ∀ s, P s [] → Q s) (ts : List Task) (s : State)
    (h : P s ts) : Q (s.settle ts) := by
  induction hn : s.fuel ts using Nat.strong_induction_on generalizing s ts with
  | _ n ih =>
    cases ts with
    | nil => rw [settle_nil]; exact done s h
    | cons t ts =>
      rw [settle_cons]
      refine ih _ ?_ _ _ (step t ts s h) rfl
      have hm := act_measure t s
      subst hn
      simp only [fuel_eq, weights_cons, weights_append]
      omega

/-- The tasks in front are carried out, with all that follows from them, before those behind. -/
theorem settle_append (ts us : List Task) (s : State) : s.settle (ts ++ us) = (s.settle ts).settle us := by
  refine settle_induction (P := fun t vs => s.settle (ts ++ us) = t.settle (vs ++ us)) (Q := fun t => s.settle (ts ++ us) = t.settle us)
    (fun t vs u h => ?_) (fun u h => ?_) ts s rfl
  · rw [h, List.cons_append, settle_cons, List.append_assoc]
  · rw [h, List.nil_append]

/-! ## Hold causes -/

theorem put_has (h : Holds) (c : Cause) (v : Bool) (hv : h.has c = v) : h.put c v = h := by
  cases c <;> simp only [Holds.has] at hv <;> subst hv <;> rfl

/-- What a task does to the hold causes of a lane. -/
def Task.holdsAfter (b : Bay) (h : Holds) : Task → Holds
  | .hold c k => if c = b then h.put k true else h
  | .unhold c k => if c = b then h.put k false else h
  | _ => h

/-- A task that sets and clears no hold cause. -/
def Task.NoHold (t : Task) : Prop := ∀ b h, t.holdsAfter b h = h

/-- An event that leaves mode and marks, and every lane's hold causes, as they are. -/
structure SameCauses (s t : State) : Prop where
  mode : t.mode = s.mode
  marks : t.marks = s.marks
  holds : ∀ b, (t.lane b).holds = (s.lane b).holds

namespace SameCauses

variable {s t : State}

theorem refl (s : State) : SameCauses s s := ⟨rfl, rfl, fun _ => rfl⟩

theorem trans {s t u : State} (h : SameCauses s t) (k : SameCauses t u) : SameCauses s u :=
  ⟨k.mode.trans h.mode, k.marks.trans h.marks, fun b => (k.holds b).trans (h.holds b)⟩

/-- An event that leaves the lanes. -/
theorem of_lanes {s t : State} (mode : t.mode = s.mode) (marks : t.marks = s.marks) (lanes : t.lanes = s.lanes) : SameCauses s t :=
  ⟨mode, marks, fun b => by unfold State.lane; rw [lanes]⟩

/-! ### Updates that leave the lanes -/

theorem setScan (h : SameCauses s t) (b : Bay) (x : Option Scan) : SameCauses s (t.setScan b x) := h.trans (of_lanes rfl rfl rfl)
theorem setResidue (h : SameCauses s t) (b : Bay) (m : ResidueMap) : SameCauses s (t.setResidue b m) := h.trans (of_lanes rfl rfl rfl)
theorem setPin (h : SameCauses s t) (b : Bay) (i : Option StepIx) : SameCauses s (t.setPin b i) := h.trans (of_lanes rfl rfl rfl)
theorem setUtil (h : SameCauses s t) (u : UtilId) (x : Util) : SameCauses s (t.setUtil u x) := h.trans (of_lanes rfl rfl rfl)
theorem setPartway (h : SameCauses s t) (b : Bay) (p : Option (List Byte)) : SameCauses s (t.setPartway b p) :=
  h.trans (of_lanes rfl rfl rfl)
theorem raiseBay (h : SameCauses s t) (b : Bay) (e : Event) : SameCauses s (t.raiseBay b e) := h.trans (of_lanes rfl rfl rfl)
theorem raiseYard (h : SameCauses s t) (e : Event) : SameCauses s (t.raiseYard e) := h.trans (of_lanes rfl rfl rfl)
theorem setNotices (h : SameCauses s t) (u : NoticeUnit) : SameCauses s (t.setNotices u) := h.trans (of_lanes rfl rfl rfl)
theorem setCerts (h : SameCauses s t) (u : CertUnit) : SameCauses s (t.setCerts u) := h.trans (of_lanes rfl rfl rfl)
theorem setRecords (h : SameCauses s t) (rs : List Comp) : SameCauses s (t.setRecords rs) := h.trans (of_lanes rfl rfl rfl)
theorem setVisit (h : SameCauses s t) (b : Bay) (v : Option Visit) : SameCauses s (t.setVisit b v) := h.trans (of_lanes rfl rfl rfl)
theorem setLink (h : SameCauses s t) (l : LinkId) (x : Link) : SameCauses s (t.setLink l x) := by
  cases l <;> exact h.trans (of_lanes rfl rfl rfl)
theorem modRecord (h : SameCauses s t) (b : Bay) (k : Nat) (f : Comp → Comp) : SameCauses s (t.modRecord b k f) := h.setRecords _
theorem modServed (h : SameCauses s t) (b : Bay) (f : Comp → Comp) : SameCauses s (t.modServed b f) := by
  unfold State.modServed
  split
  · exact h.modRecord _ _ _
  · exact h
theorem freeVisit (h : SameCauses s t) (b : Bay) : SameCauses s (t.freeVisit b) := (h.setVisit b none).setRecords _
theorem countFree (h : SameCauses s t) : SameCauses s t.countFree := h.trans (of_lanes rfl rfl rfl)
theorem release (h : SameCauses s t) (b : Bay) : SameCauses s (t.release b).1 := by
  unfold State.release
  split
  · exact h
  · exact h.setUtil _ _

/-! ### Lanes -/

theorem setLane (h : SameCauses s t) (b : Bay) (l : Lane) (hl : l.holds = (t.lane b).holds) : SameCauses s (t.setLane b l) :=
  h.trans ⟨rfl, rfl, fun c => by
    by_cases hc : b = c
    · subst hc; rw [lane_setLane]; exact hl
    · rw [lane_setLane_other _ _ hc]⟩

theorem amendLane (h : SameCauses s t) (b : Bay) (l : Lane) (hl : l.holds = (t.lane b).holds) : SameCauses s (t.amendLane b l) :=
  h.trans ⟨rfl, rfl, fun c => by
    by_cases hc : b = c
    · subst hc; rw [lane_amendLane]; exact hl
    · rw [lane_amendLane_other _ _ hc]⟩

theorem goNext (h : SameCauses s t) (b : Bay) (l : Lane) (hl : l.holds = (t.lane b).holds) : SameCauses s (t.goNext b l) := by
  unfold State.goNext State.nextOf
  dsimp only
  split
  · exact h.amendLane _ _ hl
  · exact h.countFree.amendLane _ _ hl

theorem appendEntry (h : SameCauses s t) (b : Bay) (e : QEntry) : SameCauses s (t.appendEntry b e) := h.setLane _ _ rfl

/-! ### Certificates -/

theorem judgeBacklog (h : SameCauses s t) : SameCauses s t.judgeBacklog := by
  unfold State.judgeBacklog
  dsimp only
  split
  · exact h
  · exact (h.setCerts _).raiseYard _
theorem enterAuditHold (h : SameCauses s t) (spent : Bool) (n : Nat) : SameCauses s (t.enterAuditHold spent n) :=
  (h.setCerts _).raiseYard _
theorem withhold (h : SameCauses s t) (b : Bay) (k : Nat) (f : Bool) : SameCauses s (t.withhold b k f) := by
  unfold State.withhold
  dsimp only
  split
  · exact ((h.setCerts _).modRecord _ _ _).enterAuditHold _ _
  · exact (h.setCerts _).modRecord _ _ _
theorem countIssue (h : SameCauses s t) (n : Nat) : SameCauses s (t.countIssue n) := by
  unfold State.countIssue
  dsimp only
  split
  · exact h.setCerts _
  split
  · exact (h.setCerts _).enterAuditHold _ _
  split
  · exact (h.setCerts _).enterAuditHold _ _
  · exact h.setCerts _
theorem markCertified (h : SameCauses s t) (n : Nat) (r : Comp) : SameCauses s (t.markCertified n r) := by
  unfold State.markCertified
  dsimp only
  split
  · exact (h.modRecord _ _ _).appendEntry _ _
  · exact h.modRecord _ _ _
theorem issueTo (h : SameCauses s t) (n : Nat) (r : Comp) (f : Bool) : SameCauses s (t.issueTo n r f) :=
  (((((h.setCerts _).markCertified _ _).raiseBay _ _).judgeBacklog).countIssue _)

end SameCauses

/-! ## Tasks -/

open SameCauses in
/-- A task other than a hold cause's leaves the hold causes. -/
theorem act_sameCauses (t : Task) (s : State) (ht : t.NoHold) : SameCauses s (act t s).1 := by
  have h0 := SameCauses.refl s
  cases t <;> simp only [act]
  case judge u =>
    unfold actJudge; dsimp only
    repeat' (first | exact h0 | exact h0.setUtil _ _ | split)
  case granted b =>
    unfold actGranted; dsimp only
    split <;> split <;> first | exact h0 | exact h0.setLane _ _ rfl
  case back u => exact (h0.setUtil _ _).raiseYard _
  case idle b =>
    unfold actIdle; dsimp only
    split
    · split
      · exact h0
      · split
        · split
          · exact h0
          · unfold State.takeWash; dsimp only
            split
            · exact ((h0.modRecord _ _ _).setResidue _ _).setLane _ _ rfl
            · exact ((h0.modRecord _ _ _).setResidue _ _).setLane _ _ rfl
        · unfold State.takeFill; dsimp only
          split
          · exact h0.setLane _ _ rfl
          · split
            · exact h0.setLane _ _ rfl
            · split
              · refine raiseBay (setLane (h0.modRecord _ _ _) _ _ ?_) _ _
                rfl
              · split
                · exact (h0.modRecord _ _ _).setLane _ _ rfl
                · exact (h0.modRecord _ _ _).setLane _ _ rfl
    · exact h0
  case fetch b =>
    unfold actFetch; dsimp only
    generalize h2e : (if (s.lane b).fetched = 0 then (s.setPin b (some (s.lane b).index)).modServed b
        fun r => { r with dirty := none } else s.setPin b (some (s.lane b).index)) = s2
    have h2 : SameCauses s s2 := by
      subst h2e
      split
      · exact (h0.setPin _ _).modServed _ _
      · exact h0.setPin _ _
    have hl : (s.lane b).holds = (s2.lane b).holds := (h2.holds b).symm
    split
    · exact h0
    · split
      · exact h2.amendLane _ _ hl
      · split
        · exact h2.setLane _ _ hl
        · exact h2.setLane _ _ hl
        · split
          · exact h2.setLane _ _ hl
          · exact h2.amendLane _ _ hl
        · split
          · exact (h2.setScan _ _).setLane _ _ hl
          · exact h2.amendLane _ _ hl
        · exact h2.amendLane _ _ hl
  case claim b u => exact h0.setUtil _ _
  case fillWait b =>
    unfold actFillWait; dsimp only
    repeat' (first | exact h0.setLane _ _ rfl | split)
  case abort b r => exact h0.release _
  case aborted b r => exact ((((h0.setPin _ _).setScan _ _).modServed _ _).setLane _ _ (by simp [Lane.toIdle])).raiseBay _ _
  case endFill b e => exact h0.release _
  case fillEnded b e =>
    unfold actFillEnded; dsimp only
    have h1 := h0.modServed b fun r => { r with st := .filled, outcome := some e.outcome }
    split
    · exact h1.setLane _ _ (by simp [Lane.toIdle])
    · refine setLane ?_ _ _ ?_
      · refine raiseBay ?_ _ _
        unfold State.raiseFillExtra
        split <;> first | exact h1.raiseBay _ _ | exact h1
      · unfold State.raiseFillExtra
        split <;> simp [Lane.toIdle]
  case stepEnd b => exact h0.release _
  case stepEnded b =>
    unfold actStepEnded; dsimp only
    have h1 := (h0.setPin b none).raiseBay b (.stepDone (s.servedIndex b) (s.lane b).index (s.stepOf b).kind (s.lane b).delivered)
    split
    · split
      · exact h1.setLane _ _ rfl
      · exact h1
    · exact h1
  case proceed b =>
    unfold actProceed; dsimp only
    split
    · exact h0
    · split
      · exact h0.setLane _ _ rfl
      · exact h0.goNext _ _ rfl
  case programEnd b =>
    unfold actProgramEnd; dsimp only
    split
    · split
      · exact h0
      · exact (h0.modServed _ _).raiseBay _ _
    · exact (h0.modServed _ _).raiseBay _ _
  case toIdle b => exact h0.setLane _ _ rfl
  case certify b k f =>
    unfold actCertify
    repeat' (first | exact h0 | exact h0.withhold _ _ _ | exact h0.issueTo _ _ _ | split)
  case drain =>
    unfold actDrain; dsimp only
    repeat' (first | exact h0 | exact h0.setCerts _ | exact (h0.setCerts _).issueTo _ _ _ | split)
  case hold b c => exact absurd (ht b Holds.none) (by cases c <;> simp [Task.holdsAfter, Holds.put, Holds.none])
  case unhold b c =>
    exact absurd (ht b { host := true, lockout := true, stop := true }) (by cases c <;> simp [Task.holdsAfter, Holds.put])
  case modeChange l e c => exact h0.raiseYard _

theorem holds_setLane (s : State) (b d : Bay) (l : Lane) :
    ((s.setLane b l).lane d).holds = if b = d then l.holds else (s.lane d).holds := by
  split
  · next h => subst h; simp
  · next h => rw [lane_setLane_other _ _ h]

theorem holds_amendLane (s : State) (b d : Bay) (l : Lane) :
    ((s.amendLane b l).lane d).holds = if b = d then l.holds else (s.lane d).holds := by
  split
  · next h => subst h; simp
  · next h => rw [lane_amendLane_other _ _ h]

theorem holds_goNext (s : State) (b d : Bay) (l : Lane) :
    ((s.goNext b l).lane d).holds = if b = d then l.holds else (s.lane d).holds := by
  unfold State.goNext State.nextOf
  cases (s.entry l.index).next? <;> simp [holds_amendLane]

theorem holds_resumeChecked (s : State) (b d : Bay) (l : Lane) (st : LaneState) (n : Nat) :
    ((s.resumeChecked b l st n).1.lane d).holds = if b = d then l.holds else (s.lane d).holds := by
  unfold State.resumeChecked
  split <;> exact holds_setLane ..

/-- A lane that leaves HELD has the causes it is given. -/
theorem holds_resume (s : State) (b d : Bay) (l : Lane) :
    ((s.resume b l).1.lane d).holds = if b = d then l.holds else (s.lane d).holds := by
  have hfill : ∀ x : State × List Task, x = (s.setLane b { l with ret := none }, [.fillWait b]) →
      (x.1.lane d).holds = if b = d then l.holds else (s.lane d).holds := by
    intro x hx; rw [hx]; exact holds_setLane ..
  have hwash : ∀ o : Option WashUtil, ((match o with
      | some u => (s.setLane b { l with st := .waitResource, ret := none }, [Task.claim b u.util])
      | none => s.resumeChecked b l .running l.timer).1.lane d).holds = if b = d then l.holds else (s.lane d).holds := by
    intro o
    cases o
    · exact holds_resumeChecked ..
    · exact holds_setLane ..
  unfold State.resume
  cases l.ret with
  | none => exact holds_setLane ..
  | some r =>
    cases r <;> dsimp only
    case seating => split <;> exact holds_setLane ..
    case draining => exact holds_resumeChecked ..
    case scanning => exact holds_resumeChecked ..
    case starved => split; exacts [holds_goNext .., holds_setLane ..]
    case idle => exact holds_setLane ..
    case held => exact holds_setLane ..
    all_goals split; exacts [hfill _ rfl, hwash _]

/-- A cause added to a lane, or found there already. -/
theorem holds_actHold (b : Bay) (c : Cause) (s : State) (d : Bay) :
    ((actHold b c s).1.lane d).holds = if b = d then (s.lane d).holds.put c true else (s.lane d).holds := by
  unfold actHold
  dsimp only
  split
  · next hc =>
    split
    · next h => subst h; exact (put_has _ _ _ hc).symm
    · rfl
  · have hset := holds_setLane s b d
    split
    · rw [((SameCauses.refl _).release b).holds d, hset]
      split
      · next h => subst h; rfl
      · rfl
    · rw [hset]
      split
      · next h => subst h; rfl
      · rfl

/-- A cause taken from a lane, or already gone. -/
theorem holds_actUnhold (b : Bay) (c : Cause) (s : State) (d : Bay) :
    ((actUnhold b c s).1.lane d).holds = if b = d then (s.lane d).holds.put c false else (s.lane d).holds := by
  have hset : ∀ l : Lane, l.holds = (s.lane b).holds.put c false →
      (if b = d then l.holds else (s.lane d).holds) = if b = d then (s.lane d).holds.put c false else (s.lane d).holds := by
    intro l hl
    split
    · next h => subst h; exact hl
    · rfl
  unfold actUnhold
  dsimp only
  split
  · split
    · split
      · rw [holds_resume]; exact hset _ rfl
      · rw [holds_setLane]; exact hset _ rfl
      · rw [holds_setLane]; exact hset _ rfl
    · rw [holds_setLane]; exact hset _ rfl
  · next hc =>
    split
    · next h => subst h; exact (put_has _ _ _ (by simpa using hc)).symm
    · rfl

/-- What any task does to the hold causes. -/
theorem act_holds (t : Task) (s : State) (b : Bay) : ((act t s).1.lane b).holds = t.holdsAfter b (s.lane b).holds := by
  cases t
  case hold c k => exact holds_actHold c k s b
  case unhold c k => exact holds_actUnhold c k s b
  all_goals exact (act_sameCauses _ s fun _ _ => rfl).holds b

/-- A task of a hold cause. -/
def Task.ofHold : Task → Bool
  | .hold .. | .unhold .. => true
  | _ => false

theorem noHold_of_ofHold {t : Task} (h : t.ofHold = false) : t.NoHold := by
  cases t <;> first | exact fun _ _ => rfl | cases h

theorem follow_release (s : State) (b : Bay) : (s.release b).2.all (!·.ofHold) = true := by
  unfold State.release
  split <;> rfl

theorem follow_resumeChecked (s : State) (b : Bay) (l : Lane) (st : LaneState) (n : Nat) :
    (s.resumeChecked b l st n).2.all (!·.ofHold) = true := by
  unfold State.resumeChecked
  split <;> rfl

theorem follow_resume (s : State) (b : Bay) (l : Lane) : (s.resume b l).2.all (!·.ofHold) = true := by
  unfold State.resume
  cases l.ret with
  | none => rfl
  | some r =>
    cases r <;> dsimp only
    case draining => exact follow_resumeChecked ..
    case scanning => exact follow_resumeChecked ..
    all_goals repeat' (first | rfl | exact follow_resumeChecked .. | split)

/-- One more task that is of no hold cause. -/
theorem follow_then {ts : List Task} {t : Task} (h : ts.all (!·.ofHold) = true) (ht : t.ofHold = false) :
    (ts ++ [t]).all (!·.ofHold) = true := by
  rw [List.all_append, h]
  simp [ht]

/-- No task is followed by one of a hold cause. -/
theorem act_follow (t : Task) (s : State) : (act t s).2.all (!·.ofHold) = true := by
  cases t <;> simp only [act]
  case hold b c => unfold actHold; dsimp only; repeat' (first | rfl | exact follow_release .. | split)
  case unhold b c => unfold actUnhold; dsimp only; repeat' (first | rfl | exact follow_resume .. | split)
  case abort b r => exact follow_then (follow_release _ _) rfl
  case endFill b e => exact follow_then (follow_release _ _) rfl
  case stepEnd b => exact follow_then (follow_release _ _) rfl
  case judge u => unfold actJudge; dsimp only; repeat' (first | rfl | split)
  case granted b => unfold actGranted; dsimp only; repeat' (first | rfl | split)
  case idle b => unfold actIdle State.takeWash State.takeFill; dsimp only; repeat' (first | rfl | split)
  case fetch b => unfold actFetch; dsimp only; repeat' (first | rfl | split)
  case fillWait b => unfold actFillWait; dsimp only; repeat' (first | rfl | split)
  case stepEnded b => unfold actStepEnded; dsimp only; repeat' (first | rfl | split)
  case proceed b => unfold actProceed; dsimp only; repeat' (first | rfl | split)
  case programEnd b => unfold actProgramEnd; dsimp only; repeat' (first | rfl | split)
  case certify b k f => unfold actCertify State.afterIssue; repeat' (first | rfl | split)
  case drain => unfold actDrain State.afterIssue; dsimp only; repeat' (first | rfl | split)
  all_goals rfl

/-- A run of tasks of no hold cause leaves hold causes. -/
theorem foldl_holdsAfter {us : List Task} (hu : us.all (!·.ofHold) = true) (b : Bay) (h : Holds) :
    us.foldl (fun h t => t.holdsAfter b h) h = h := by
  induction us with
  | nil => rfl
  | cons u us ih =>
    simp only [List.all_cons, Bool.and_eq_true, Bool.not_eq_true'] at hu
    rw [List.foldl_cons, noHold_of_ofHold hu.1]
    exact ih hu.2

/-- A cascade does to the hold causes what its own tasks do, one after another. -/
theorem settle_holds (ts : List Task) (s : State) (b : Bay) :
    ((s.settle ts).lane b).holds = ts.foldl (fun h t => t.holdsAfter b h) (s.lane b).holds := by
  refine settle_induction
    (P := fun t us => us.foldl (fun h t => t.holdsAfter b h) (t.lane b).holds = ts.foldl (fun h t => t.holdsAfter b h) (s.lane b).holds)
    (fun t us u h => ?_) (fun u h => h) ts s rfl
  rw [List.foldl_append, act_holds, foldl_holdsAfter (act_follow t u)]
  exact h

/-- A cascade leaves what `CascadeFrame` lists. -/
theorem settle_frame (ts : List Task) (s : State) : CascadeFrame s (s.settle ts) :=
  settle_keeps (CascadeFrame s) (fun t _ h => h.trans (act_frame t _)) ts s (.refl s)

theorem SameCauses.settle {s t : State} (h : SameCauses s t) (ts : List Task) (hts : ts.all (!·.ofHold) = true) :
    SameCauses s (t.settle ts) :=
  h.trans ⟨(settle_frame ts t).mode, (settle_frame ts t).marks, fun b => by rw [settle_holds, foldl_holdsAfter hts]⟩

end Sys2Proof.Machine
end

section
/-! PROOFS. Hold causes through whole events: every step keeps STOP in step with the mode and LOCKOUT with its mark. -/

namespace Sys2Proof.Machine

/-! ## Events that leave the hold causes -/

namespace SameCauses

variable {s t : State}

theorem kept (h : SameCauses s t) (hs : s.CausesFollow) : t.CausesFollow := fun b => by
  rw [h.holds b, h.mode]
  simp only [h.marks]
  exact hs b

/-! ### Reports and signals -/

theorem countReport (h : SameCauses s t) (b : Bay) (r : Report) : SameCauses s (t.countReport b r) := by
  have hm : ∀ f, ((t.lane b).holds = ((t.modServed b f).lane b).holds) := fun f => by simp
  unfold State.countReport State.countRunning
  dsimp only
  repeat' (first | exact h.setLane _ _ (by rfl) | exact (h.modServed _ _).setLane _ _ (hm _) | split)

theorem dropSeating (h : SameCauses s t) (b : Bay) : SameCauses s (t.dropSeating b) :=
  ((h.modServed _ _).raiseBay b (.fault .seatTimeout _ _)).setLane _ _ (by simp [Lane.toIdle])

theorem endReport (h : SameCauses s t) (b : Bay) (e : ReportEnd) : SameCauses s (t.endReport b e) := by
  cases e
  case goesOn => exact h
  case seatTimeout => exact (h.dropSeating b).settle _ (by rfl)
  all_goals exact h.settle _ (by rfl)

theorem takeReport (h : SameCauses s t) (b : Bay) (r : Report) : SameCauses s (t.takeReport b r) := (h.countReport b r).endReport b _

theorem reportRow (h : SameCauses s t) (b : Bay) (flow fill temp : Byte) (e : ReportEnd) :
    SameCauses s (t.reportRow b flow fill temp e) := by
  unfold State.reportRow State.takeReportFor
  split
  · exact h
  · split
    · exact h.takeReport _ _
    · exact h

theorem takeSeated (h : SameCauses s t) (b : Bay) (k : Nat) : SameCauses s (t.takeSeated b k) := by
  have h1 := h.setLane b { t.lane b with seated := some k } rfl
  unfold State.takeSeated
  dsimp only
  split
  · split
    · refine h1.settle _ ?_
      split <;> rfl
    · exact h1
  all_goals first | exact h1 | (split; exacts [h1, h1.settle _ (by rfl)])

theorem takeLifted (h : SameCauses s t) (b : Bay) : SameCauses s (t.takeLifted b) := by
  have h1 := h.setLane b { t.lane b with seated := none } rfl
  unfold State.takeLifted
  dsimp only
  split <;> first | exact h1 | exact h1.settle _ (by rfl)

theorem takeDrainClear (h : SameCauses s t) (b : Bay) : SameCauses s (t.takeDrainClear b) := by
  unfold State.takeDrainClear
  split
  · exact h.settle _ (by rfl)
  · exact h

theorem takeHighLevel (h : SameCauses s t) (b : Bay) : SameCauses s (t.takeHighLevel b) := by
  unfold State.takeHighLevel
  repeat' (first | exact h | exact h.settle _ (by rfl) | split)

theorem actOnVerdict (h : SameCauses s t) (b : Bay) (j : Judgement) : SameCauses s (t.actOnVerdict b j) := by
  cases j
  case pass cap => exact (h.setLane _ _ (by rfl)).settle _ (by rfl)
  case rewash => exact (h.modServed _ _).settle _ (by rfl)
  case refer => exact ((h.modServed _ _).raiseBay b (.referral _)).settle _ (by rfl)

theorem giveVerdict (h : SameCauses s t) (b : Bay) (x : Scan) : SameCauses s (t.giveVerdict b x) :=
  ((((h.modServed _ _).raiseBay b (.verdict ..)).setScan _ _).setPin _ _).actOnVerdict b _

theorem takeProbe (h : SameCauses s t) (b : Bay) (g : Grade) : SameCauses s (t.takeProbe b g) := by
  unfold State.takeProbe
  dsimp only
  split
  · split
    · exact ((h.setResidue _ _).setLane _ _ (by rfl)).setScan _ _
    · exact ((h.setResidue _ _).setLane _ _ (by rfl)).giveVerdict _ _
  · exact h

theorem takeMessage (h : SameCauses s t) (b : Bay) (m : PortMessage) : SameCauses s (t.takeMessage b m) := by
  cases m
  case report r => exact h.takeReport b r
  case seated k => exact h.takeSeated b k
  case lifted => exact h.takeLifted b
  case drainClear => exact h.takeDrainClear b
  case highLevel => exact h.takeHighLevel b
  case probe g => exact h.takeProbe b g

theorem takeMessage? (h : SameCauses s t) (b : Bay) (m : Option PortMessage) : SameCauses s (t.takeMessage? b m) := by
  cases m
  case none => exact h
  case some m => exact h.takeMessage b m

theorem portByte (h : SameCauses s t) (b : Bay) (x : Byte) : SameCauses s (t.portByte b x) := by
  unfold State.portByte
  dsimp only
  repeat' (first | exact h | exact h.setPartway _ _ | exact (h.setPartway _ _).takeMessage? _ _ | split)

theorem ordersSent (h : SameCauses s t) (b : Bay) : SameCauses s (t.ordersSent b) := by
  unfold State.ordersSent
  dsimp only
  split
  · exact h
  · exact h.trans (of_lanes rfl rfl rfl)

/-! ### Utilities -/

theorem suspendAll (h : SameCauses s t) (cs : List Claim) : SameCauses s (cs.foldl (fun q c => q.suspend c.lane) t) := by
  induction cs generalizing t with
  | nil => exact h
  | cons c cs ih => exact ih (h.setLane _ _ (by rfl))

theorem storeService (h : SameCauses s t) (u : UtilId) (x : Util) (plantFault : Bool) : SameCauses s (t.storeService u x plantFault).1 := by
  unfold State.storeService
  dsimp only
  split
  · exact (((h.setUtil _ _).setUtil _ _).suspendAll _).raiseYard _
  · exact (h.setUtil _ _).setUtil _ _
  · exact h.setUtil _ _
  · exact h.setUtil _ _

theorem follow_storeService (s : State) (u : UtilId) (x : Util) (plantFault : Bool) :
    (s.storeService u x plantFault).2.all (!·.ofHold) = true := by
  unfold State.storeService
  dsimp only
  split <;> rfl

theorem putFault (h : SameCauses s t) (u : UtilId) (v : Bool) : SameCauses s (t.putFault u v) :=
  (h.storeService u _ true).settle _ (follow_storeService _ _ _ _)

theorem setUtility (h : SameCauses s t) (u : UtilId) (capacity : Nat) (offline : Bool) (cargo : Option Cargo) :
    SameCauses s (t.setUtility u capacity offline cargo) := by
  refine (h.storeService u _ false).settle _ ?_
  split
  · rfl
  · exact follow_storeService _ _ _ _

/-! ### Compartments -/

theorem retire (h : SameCauses s t) (k : Nat) : SameCauses s (t.retire k) := (h.setCerts _).judgeBacklog

theorem clearBay (h : SameCauses s t) (b : Bay) : SameCauses s (t.clearBay b) :=
  ((((((h.release b).setPin _ _).setScan _ _).setLane _ _ (by rfl)).setCerts _).freeVisit b).settle _ (follow_release _ _)

theorem extend (h : SameCauses s t) (b : Bay) (k : Nat) (last : StepIx) : SameCauses s (t.extend b k last).1 := by
  have h1 := h.modRecord b k fun r => r.extended last
  unfold State.extend
  dsimp only
  split
  · split
    · exact (h1.goNext _ _ (by rfl)).settle _ (by rfl)
    · exact h1.setLane _ _ (by rfl)
    · exact h1
  · exact h1

theorem afterIssue (s : State) (b : Bay) : (s.afterIssue b).all (!·.ofHold) = true := by
  unfold State.afterIssue
  split <;> rfl

theorem orderFill (h : SameCauses s t) (b : Bay) (r : Comp) (o : FillOrder) : SameCauses s (t.orderFill b r o) := by
  have h1 := h.modRecord b r.index fun x => { x with order := some o }
  unfold State.orderFill
  dsimp only
  split
  · exact (h1.appendEntry _ _).settle _ (afterIssue _ _)
  · exact h1

theorem judgeOrder (h : SameCauses s t) (b : Bay) (r : Comp) (o : FillOrder) : SameCauses s (t.judgeOrder b r o).1 := by
  unfold State.judgeOrder
  repeat' (first | exact h | exact h.orderFill _ _ _ | split)

theorem dropFill (h : SameCauses s t) (b : Bay) (k : Nat) : SameCauses s (t.dropFill b k) := by
  refine ((h.modRecord _ _ _).setLane _ _ (by rfl)).settle _ ?_
  split <;> rfl

/-! ### Links -/

theorem choose (h : SameCauses s t) : SameCauses s t.choose := by
  have h1 := (h.setLink .office (t.office.choose)).setLink .panel t.panel.choose
  unfold State.choose State.chooseNotice
  dsimp only
  repeat' (first | exact h1 | exact (h1.setLink _ _).setNotices _ | split)

end SameCauses

/-! ## The mode and the marks -/

/-- One task of the same cause for each of a list of bays: the lanes of those bays take it or lose it. -/
theorem foldl_holdTasks {k : Bay → Task} {c : Cause} {v : Bool}
    (hk : ∀ b d h, (k d).holdsAfter b h = if d = b then h.put c v else h) (bs : List Bay) (b : Bay) (h : Holds) :
    (bs.map k).foldl (fun h t => t.holdsAfter b h) h = if b ∈ bs then h.put c v else h := by
  have hput : (h.put c v).put c v = h.put c v := by cases c <;> rfl
  induction bs generalizing h with
  | nil => rfl
  | cons d bs ih =>
    rw [List.map_cons, List.foldl_cons, hk]
    by_cases hd : d = b
    · subst hd
      rw [if_pos rfl, ih _ (by cases c <;> rfl), if_pos List.mem_cons_self, hput, ite_self]
    · rw [if_neg hd, ih _ hput]
      simp [Ne.symm hd]

theorem mem_allBays (b : Bay) : b ∈ allBays := List.mem_finRange b

/-- What the lanes do at a change of mode leaves STOP on each exactly where the yard is then STOPPED, and LOCKOUT alone. -/
theorem modeTasks_holds (left entered : Mode) (b : Bay) (h : Holds) (hs : h.stop = decide (left = .stopped)) :
    ((modeTasks left entered).foldl (fun h t => t.holdsAfter b h) h).stop = decide (entered = .stopped) ∧
      ((modeTasks left entered).foldl (fun h t => t.holdsAfter b h) h).lockout = h.lockout := by
  have hhold : (allBays.map fun b => Task.hold b .stop).foldl (fun h t => t.holdsAfter b h) h = h.put .stop true := by
    rw [foldl_holdTasks (fun _ _ _ => rfl) allBays b h, if_pos (mem_allBays b)]
  have hunhold : (allBays.map fun b => Task.unhold b .stop).foldl (fun h t => t.holdsAfter b h) h = h.put .stop false := by
    rw [foldl_holdTasks (fun _ _ _ => rfl) allBays b h, if_pos (mem_allBays b)]
  have hidle : (allBays.map Task.idle).foldl (fun h t => t.holdsAfter b h) h = h := foldl_holdsAfter (by decide) b h
  cases left <;> cases entered <;> simp [modeTasks, hhold, hunhold, hidle, Holds.put, hs]

theorem SameCauses.parkLanes (s : State) : SameCauses s s.parkLanes := by
  have hfold : ∀ (bs : List Bay) (t : State), SameCauses s t →
      SameCauses s (bs.foldl (fun t b => t.setLane b (t.lane b).park) t) := by
    intro bs
    induction bs with
    | nil => exact fun _ h => h
    | cons b bs ih => exact fun t h => ih _ (h.setLane _ _ (by rfl))
  exact hfold allBays s (.refl s)

/-- A change of mode brings STOP into step with the mode entered. -/
theorem changeMode_causes {s : State} (h : s.CausesFollow) (m : Mode) (cause : ModeCause) : (s.changeMode m cause).CausesFollow := by
  have key : ∀ t : State, SameCauses { s with mode := m } t →
      (t.settle (modeTasks s.mode m ++ [.modeChange s.mode m cause])).CausesFollow := by
    intro t ht b
    have hb : (t.lane b).holds = (s.lane b).holds := ht.holds b
    obtain ⟨hstop, hlock⟩ := h b
    obtain ⟨kstop, klock⟩ := modeTasks_holds s.mode m b (s.lane b).holds hstop
    have hf := settle_frame (modeTasks s.mode m ++ [.modeChange s.mode m cause]) t
    rw [settle_holds, hb, List.foldl_append]
    simp only [hf.mode, hf.marks, ht.mode, ht.marks]
    exact ⟨kstop, klock.trans hlock⟩
  unfold State.changeMode
  dsimp only
  split
  · exact key _ (.parkLanes _)
  · exact key _ (.refl _)

/-- A mark's change of value brings LOCKOUT into step with the mark it is wired to. -/
theorem putMark_causes {s : State} (h : s.CausesFollow) (m : Fin 32) (v : Bool) : (s.putMark m v).CausesFollow := by
  unfold State.putMark lockoutBay?
  dsimp only
  split
  · next b hb =>
    split at hb
    · next hm =>
      obtain rfl : ⟨m.val - 1, by omega⟩ = b := by simpa using hb
      intro c
      have hf := settle_frame [if v then .hold ⟨m.val - 1, by omega⟩ .lockout else .unhold ⟨m.val - 1, by omega⟩ .lockout]
        { s with marks := s.marks.set m v }
      have hh : ∀ h : Holds, Task.holdsAfter c h (if v then .hold ⟨m.val - 1, by omega⟩ .lockout else
          .unhold ⟨m.val - 1, by omega⟩ .lockout) = if c.val + 1 = m.val then h.put .lockout v else h := by
        intro h
        have hc : (⟨m.val - 1, by omega⟩ : Bay) = c ↔ c.val + 1 = m.val := by rw [Fin.ext_iff]; dsimp only; omega
        cases v <;> simp [Task.holdsAfter, hc]
      obtain ⟨hstop, hlock⟩ := h c
      rw [settle_holds]
      simp only [List.foldl_cons, List.foldl_nil, hh, hf.mode, hf.marks, Vector.getElem_set]
      by_cases hc : c.val + 1 = m.val
      · simp only [hc, if_true]
        exact ⟨hstop, rfl⟩
      · simp only [hc, Ne.symm hc, if_false]
        exact ⟨hstop, hlock⟩
    · cases hb
  · next hb =>
    have hm : ¬(1 ≤ m.val ∧ m.val ≤ 6) := by
      intro hm
      simp [hm] at hb
    have h1 : ({ s with marks := s.marks.set m v } : State).CausesFollow := fun c => by
      have hne : m.val ≠ c.val + 1 := by omega
      obtain ⟨hstop, hlock⟩ := h c
      exact ⟨hstop, hlock.trans (by simp [hne])⟩
    split
    · exact changeMode_causes h1 _ _
    · exact h1

theorem stopRise_causes {s : State} (h : s.CausesFollow) : s.stopRise.CausesFollow := by
  have h1 : ({ s with stopLevel := true } : State).CausesFollow := (SameCauses.of_lanes rfl rfl rfl : SameCauses s _).kept h
  unfold State.stopRise
  dsimp only
  split
  · exact changeMode_causes h1 _ _
  · exact h1

theorem restarted_causes (s : State) : s.restarted.CausesFollow := fun b => by
  simp [State.restarted, State.lane, State.restartLane, Lane.reset]

/-- The host's own cause is neither of the yard's. -/
theorem put_host (p : Prop) [Decidable p] (h : Holds) (v : Bool) :
    (if p then h.put .host v else h).stop = h.stop ∧ (if p then h.put .host v else h).lockout = h.lockout := by
  split <;> exact ⟨rfl, rfl⟩

/-- A hold cause of the host's leaves the yard's own. -/
theorem settle_host_causes {s : State} (h : s.CausesFollow) {t : Task}
    (ht : ∀ b h, (t.holdsAfter b h).stop = h.stop ∧ (t.holdsAfter b h).lockout = h.lockout) : (s.settle [t]).CausesFollow := fun b => by
  have hf := settle_frame [t] s
  obtain ⟨hstop, hlock⟩ := h b
  obtain ⟨kstop, klock⟩ := ht b (s.lane b).holds
  rw [settle_holds]
  simp only [hf.mode, hf.marks]
  exact ⟨kstop.trans hstop, klock.trans hlock⟩

/-! ## Requests -/

open SameCauses in
/-- Every request's owner keeps the hold causes in step. -/
theorem answer_causes (r : Request) {s : State} (h : s.CausesFollow) : (answer r s).1.CausesFollow := by
  have h0 := SameCauses.refl s
  have same : ∀ {t : State}, t.mode = s.mode → t.marks = s.marks → t.lanes = s.lanes → t.CausesFollow := fun hm hk hl =>
    (SameCauses.of_lanes hm hk hl).kept h
  cases r <;> simp only [answer]
  case setMode m =>
    unfold answerSetMode; dsimp only
    repeat' (first | exact h | exact changeMode_causes h _ _ | split)
  case restart =>
    unfold answerRestart; dsimp only
    split
    · exact restarted_causes s
    · exact ((SameCauses.refl _).raiseYard _).kept (restarted_causes s)
  case linkSetup o v m =>
    unfold answerLinkSetup; dsimp only
    repeat' (first | exact h | exact (h0.setNotices _).kept h | split)
  case setClock c => exact (h0.setCerts _).kept h
  case setTiming => unfold answerSetTiming; split; exacts [h, same rfl rfl rfl]
  case setAudit p x => unfold answerSetAudit; split; exacts [(h0.setCerts _).judgeBacklog.kept h, h]
  case setCertBase n =>
    unfold answerSetCertBase
    repeat' (first | exact h | exact (h0.setCerts _).kept h | split)
  case mark o m =>
    unfold answerMark; dsimp only
    repeat' (first | exact h | exact putMark_causes h _ _ | split)
  case loadCarryover r es => unfold answerLoadCarryover; split; exacts [same rfl rfl rfl, h]
  case readCarryover r => unfold answerReadCarryover; split <;> exact h
  case loadVerdict f os =>
    unfold answerLoadVerdict
    repeat' (first | exact h | exact same rfl rfl rfl | split)
  case readVerdict f n => unfold answerReadVerdict; split <;> exact h
  case stepWindow f l => unfold answerStepWindow; split; exacts [same rfl rfl rfl, h]
  case stepWrite ss =>
    unfold answerStepWrite
    repeat' (first | exact h | exact same rfl rfl rfl | split)
  case stepRead i n => unfold answerStepRead; split <;> exact h
  case setUtility u c o g =>
    unfold answerSetUtility; dsimp only
    repeat' (first | exact h | exact (h0.setUtility _ _ _ _).kept h | split)
  case admitVisit b f p ps =>
    unfold answerAdmit; dsimp only
    split
    · exact h
    split
    · split
      · exact h
      split
      · exact h
      split
      · exact h
      split
      · exact h
      · exact ((h0.setVisit _ _).setRecords _).kept h
    · exact h
  case depart b =>
    unfold answerDepart; dsimp only
    split
    · exact h
    split
    · exact h
    · split
      · exact h
      · split
        · exact ((h0.setLane _ _ (by rfl)).freeVisit _).kept h
        · exact h
  case bayClear b =>
    unfold answerBayClear
    split
    · exact h
    split
    · exact h
    · dsimp only
      split
      · exact h
      · exact (h0.clearBay _).kept h
  case assign b i x m l c =>
    unfold answerAssign
    split
    · exact h
    split
    · split
      · exact h
      · split
        · exact (((h0.modRecord _ _ _).appendEntry _ _).settle _ (afterIssue _ _)).kept h
        · exact h
    · exact h
  case extend b i n =>
    unfold answerExtend
    split
    · exact h
    split
    · split
      · exact h
      · split
        · exact h
        · exact (h0.extend _ _ _).kept h
    · exact h
  case abort b =>
    unfold answerAbort
    split
    · exact h
    split
    · exact h
    · split
      · exact (h0.settle _ (by rfl)).kept h
      · exact h
  case hold b =>
    unfold answerHold; dsimp only
    split
    · exact h
    split
    · exact h
    · exact settle_host_causes h fun _ _ => put_host ..
  case resume b =>
    unfold answerResume; dsimp only
    split
    · exact h
    split
    · exact h
    · exact settle_host_causes h fun _ _ => put_host ..
  case orderFill b i c t =>
    unfold answerOrderFill
    split
    · exact h
    split
    · split
      · exact h
      · split
        · exact h
        · split
          · exact (h0.judgeOrder _ _ _).kept h
          · exact h
    · exact h
  case cancelFill b i =>
    unfold answerCancelFill
    split
    · exact h
    split
    · split
      · exact h
      · split
        · exact h
        split
        · exact (h0.dropFill _ _).kept h
        split
        · exact (h0.settle _ (by rfl)).kept h
        · exact (h0.modRecord _ _ _).kept h
    · exact h
  case ruleReferral b i r c =>
    unfold answerRuleReferral
    split
    · exact h
    split
    · split
      · exact h
      · split
        · dsimp only
          split
          · exact ((h0.modRecord _ _ _).settle _ (by rfl)).kept h
          · exact (h0.modRecord _ _ _).kept h
        · exact h
    · exact h
  case certRead n => unfold answerCertRead; split <;> exact h
  case certRetire k =>
    unfold answerCertRetire; dsimp only
    split
    · exact h
    · split
      · exact h
      · split
        · exact (h0.retire _).kept h
        · exact ((h0.retire _).settle _ (by rfl)).kept h
  case auditRelease =>
    unfold answerAuditRelease; dsimp only
    split
    · exact h
    · split
      · exact h
      · exact ((h0.setCerts _).settle _ (by rfl)).kept h
  case bayStatus b => unfold answerBayStatus; split <;> exact h
  case compartmentStatus b i =>
    unfold answerCompartmentStatus
    repeat' (first | exact h | split)
  case mapRead =>
    unfold answerMapRead; dsimp only
    repeat' (first | exact h | split)
  case pendingRead sc => unfold answerPendingRead; split <;> exact h
  case pendingClear sc ks =>
    unfold answerPendingClear; dsimp only
    repeat' (first | exact h | exact (h0.setNotices _).kept h | split)
  all_goals exact h

/-! ## Whole events -/

/-- An event keeps the hold causes in step. -/
def KeepsCauses (s t : State) : Prop := s.CausesFollow → t.CausesFollow

namespace KeepsCauses

variable {s t u : State}

theorem trans (h : KeepsCauses s t) (k : KeepsCauses t u) : KeepsCauses s u := k ∘ h

theorem of_same (h : SameCauses s t) : KeepsCauses s t := h.kept

theorem setLink (h : KeepsCauses s t) (l : LinkId) (x : Link) : KeepsCauses s (t.setLink l x) :=
  h.trans (of_same ((SameCauses.refl t).setLink l x))

theorem takeFrame (h : KeepsCauses s t) (l : LinkId) (kind tag : Byte) (x : Reading) : KeepsCauses s (t.takeFrame l kind tag x) := by
  have hserve : KeepsCauses t (t.serve l kind x).1 := by
    unfold State.serve
    split
    · exact id
    · exact id
    · split
      · exact answer_causes _
      · exact id
  exact (h.trans hserve).setLink l _

theorem arrive (h : KeepsCauses s t) (l : LinkId) (f : Frame) (x : Reading) : KeepsCauses s (t.arrive l f x) := by
  unfold State.arrive
  dsimp only
  repeat' (first | exact h.setLink l _ | exact h.takeFrame l _ _ _ | split)

theorem linkByte (h : KeepsCauses s t) (l : LinkId) (b : Byte) : KeepsCauses s (t.linkByte l b) := by
  unfold State.linkByte State.judgeFrame
  dsimp only
  repeat' (first | exact h | exact h.setLink l _ | exact (h.setLink l _).setLink l _ | exact (h.setLink l _).arrive l _ _ | split)

theorem linkGap (h : KeepsCauses s t) (l : LinkId) : KeepsCauses s (t.linkGap l) := by
  unfold State.linkGap
  dsimp only
  repeat' (first | exact h | exact h.setLink l _ | split)

theorem frameError (h : KeepsCauses s t) (l : LinkId) (e : FrameError) : KeepsCauses s (t.frameError l e) := by
  unfold State.frameError
  dsimp only
  repeat' (first | exact h | exact h.setLink l _ | split)

theorem frameSent (h : KeepsCauses s t) (l : LinkId) : KeepsCauses s (t.frameSent l) := by
  unfold State.frameSent
  dsimp only
  repeat' (first | exact h.setLink l _ | exact (h.setLink l _).takeFrame l _ _ _ | split)

theorem live {f : State → State} (h : KeepsCauses s t) (hf : KeepsCauses t (f t)) : KeepsCauses s (t.live f) := by
  unfold State.live
  split
  · exact h
  · exact (h.trans hf).trans (of_same (SameCauses.refl _).choose)

end KeepsCauses

/-- Every row of the table keeps the hold causes in step. -/
theorem exec_causes (c : Instr) (s : State) : ∃ t, exec c s = .next t ∧ KeepsCauses s t := by
  have h0 : KeepsCauses s s := id
  have p0 := SameCauses.refl s
  have plant : ∀ {f : State → State}, SameCauses s (f s) → KeepsCauses s (s.live f) := fun h => h0.live (.of_same h)
  cases hr : asRequest c with
  | some q =>
    obtain ⟨l, tag, r⟩ := q
    exact ⟨_, exec_asRequest hr s, h0.live (h0.arrive l _ _)⟩
  | none =>
    cases c <;> simp only [asRequest, reduceCtorEq] at hr
    case unknownKind l tag kind body => exact ⟨_, rfl, h0.live (h0.arrive l _ _)⟩
    case reject l e => exact ⟨_, rfl, h0.live (h0.frameError l e)⟩
    case gap l => exact ⟨_, rfl, h0.live (h0.linkGap l)⟩
    case frameSent l => exact ⟨_, rfl, h0.live (h0.frameSent l)⟩
    case bayReport b flow fill temp => exact ⟨_, rfl, plant (p0.takeMessage? b _)⟩
    case seated b x => exact ⟨_, rfl, plant (p0.takeMessage? b _)⟩
    case lifted b => exact ⟨_, rfl, plant (p0.takeMessage b _)⟩
    case drainClear b => exact ⟨_, rfl, plant (p0.takeMessage b _)⟩
    case highLevel b => exact ⟨_, rfl, plant (p0.takeMessage b _)⟩
    case probe b x => exact ⟨_, rfl, plant (p0.takeMessage? b _)⟩
    case bayPortTimeout b => exact ⟨_, rfl, plant (p0.setPartway b none)⟩
    case bayOrdersSent b => exact ⟨_, rfl, plant (p0.ordersSent b)⟩
    case stopLineRise =>
      have hp : SameCauses s (s.stopPin true) := .of_lanes rfl rfl rfl
      exact ⟨_, rfl, (KeepsCauses.of_same hp).live stopRise_causes⟩
    case stopLineFall =>
      have hp : SameCauses s (s.stopPin false) := .of_lanes rfl rfl rfl
      have hf : SameCauses (s.stopPin false) (s.stopPin false).stopFall := .of_lanes rfl rfl rfl
      exact ⟨_, rfl, (KeepsCauses.of_same hp).live (.of_same hf)⟩
    case faultLineRise u =>
      have hp : SameCauses s (s.faultPin u true) := .of_lanes rfl rfl rfl
      exact ⟨_, rfl, (KeepsCauses.of_same hp).live (.of_same ((SameCauses.refl _).putFault u true))⟩
    case faultLineFall u =>
      have hp : SameCauses s (s.faultPin u false) := .of_lanes rfl rfl rfl
      exact ⟨_, rfl, (KeepsCauses.of_same hp).live (.of_same ((SameCauses.refl _).putFault u false))⟩
    case minuteTick => exact ⟨_, rfl, plant (p0.setCerts _)⟩
    case resetLineAssert =>
      refine ⟨_, rfl, fun _ b => ?_⟩
      simp [State.resetAssert, State.lane, State.reset, Lane.reset]
    case resetLineRelease straps =>
      refine ⟨_, rfl, ?_⟩
      unfold State.resetRelease
      split
      · exact fun _ b => by simp [State.released, State.lane, State.reset, Lane.reset]
      · exact h0
    case takeWashEntry b => exact ⟨_, rfl, plant (by split; exacts [p0.settle _ (by rfl), p0])⟩
    case takeFillEntry b => exact ⟨_, rfl, plant (by split; exacts [p0.settle _ (by rfl), p0])⟩
    case utilityGrant u => exact ⟨_, rfl, plant (p0.settle _ (by rfl))⟩
    case frameByteReceived l x => exact ⟨_, rfl, h0.live (h0.linkByte l x)⟩
    case portByteReceived b x => exact ⟨_, rfl, plant (p0.portByte b x)⟩
    all_goals exact ⟨_, rfl, plant (p0.reportRow _ _ _ _ _)⟩

/-- Every step keeps STOP in step with the mode and LOCKOUT with its mark. -/
theorem step_causes {s t : State} (h : step s = .next t) : KeepsCauses s t := by
  unfold step at h
  split at h
  · obtain rfl : s = t := by simpa using h
    exact id
  · next c rest _ =>
    have hp : SameCauses s { s with pending := rest } := .of_lanes rfl rfl rfl
    obtain ⟨t', ht', k⟩ := exec_causes c { s with pending := rest }
    obtain rfl : t' = t := by simpa [ht'] using h
    exact (KeepsCauses.of_same hp).trans k

/-- Settles O58: hands, orders and grants with the capacities' own invariants, and the hold causes through every event. -/
theorem everyStepKeepsHandsCausesOrdersAndGrants : Obligations.EveryStepKeepsHandsCausesOrdersAndGrants := fun _ _ h =>
  have k := step_keeps h
  ⟨k.hands, step_causes h, k.orders, k.grants⟩

end Sys2Proof.Machine
end

section
/-! PROOFS. The readers of fields (R185, 11.2): each code is read as the value it names, and no other byte is. -/

namespace Sys2Proof.Machine

/-! ## Numbers of a range -/

theorem toNat_eq_iff (x y : Byte) : x = y ↔ x.toNat = y.toNat := BitVec.toNat_inj.symm

theorem bool?_eq_some_iff (x : Byte) (v : Bool) : bool? x = some v ↔ x = if v then 1 else 0 := by
  unfold bool?
  rw [toNat_eq_iff]
  split
  · cases v <;> simp_all
  · split <;> cases v <;> simp_all

theorem bool?_eq_none_iff (x : Byte) : bool? x = none ↔ 1 < x.toNat := by
  unfold bool?
  repeat' split
  all_goals simp
  all_goals omega

theorem priority?_eq_some_iff (x : Byte) (v : Bool) : priority? x = some v ↔ x = if v then 1 else 0 := bool?_eq_some_iff x v

theorem bay?_eq_some_iff (x : Byte) (b : Bay) : bay? x = some b ↔ x.toNat = b.val + 1 := by
  unfold bay?
  split
  · simp only [Option.some.injEq, Fin.ext_iff]; omega
  · simp only [reduceCtorEq, false_iff]; omega

theorem bay?_eq_none_iff (x : Byte) : bay? x = none ↔ x.toNat = 0 ∨ 6 < x.toNat := by
  unfold bay?
  split
  · simp only [reduceCtorEq, false_iff]; omega
  · simp only [true_iff]; omega

theorem index?_eq_some_iff (x : Byte) (k : Nat) : index? x = some k ↔ x.toNat = k ∧ 1 ≤ k ∧ k ≤ 8 := by
  unfold index?
  split
  · simp only [Option.some.injEq]; omega
  · simp only [reduceCtorEq, false_iff]; omega

theorem index?_eq_none_iff (x : Byte) : index? x = none ↔ x.toNat = 0 ∨ 8 < x.toNat := by
  unfold index?
  split
  · simp only [reduceCtorEq, false_iff]; omega
  · simp only [true_iff]; omega

theorem class?_eq_some_iff (x : Byte) (k : Nat) : class? x = some k ↔ x.toNat = k ∧ 1 ≤ k ∧ k ≤ 7 := by
  unfold class?
  split
  · simp only [Option.some.injEq]; omega
  · simp only [reduceCtorEq, false_iff]; omega

theorem class?_eq_none_iff (x : Byte) : class? x = none ↔ x.toNat = 0 ∨ 7 < x.toNat := by
  unfold class?
  split
  · simp only [reduceCtorEq, false_iff]; omega
  · simp only [true_iff]; omega

theorem cargo?_eq_some_iff (x : Byte) (c : Cargo) : cargo? x = some c ↔ x.toNat = c.val := by
  unfold cargo?
  split
  · simp only [Option.some.injEq, Fin.ext_iff]
  · simp only [reduceCtorEq, false_iff]; omega

theorem cargo?_eq_none_iff (x : Byte) : cargo? x = none ↔ 15 < x.toNat := by
  unfold cargo?
  split
  · simp only [reduceCtorEq, false_iff]; omega
  · simp only [true_iff]; omega

theorem ring?_eq_some_iff (x : Byte) (r : Fin 16) : ring? x = some r ↔ x.toNat = r.val := cargo?_eq_some_iff x r

theorem ring?_eq_none_iff (x : Byte) : ring? x = none ↔ 15 < x.toNat := cargo?_eq_none_iff x

theorem sector?_eq_some_iff (x : Byte) (c : Fin 12) : sector? x = some c ↔ x.toNat = c.val := by
  unfold sector?
  split
  · simp only [Option.some.injEq, Fin.ext_iff]
  · simp only [reduceCtorEq, false_iff]; omega

theorem sector?_eq_none_iff (x : Byte) : sector? x = none ↔ 11 < x.toNat := by
  unfold sector?
  split
  · simp only [reduceCtorEq, false_iff]; omega
  · simp only [true_iff]; omega

theorem mark?_eq_some_iff (x : Byte) (m : Fin 32) : mark? x = some m ↔ x.toNat = m.val := by
  unfold mark?
  split
  · simp only [Option.some.injEq, Fin.ext_iff]
  · simp only [reduceCtorEq, false_iff]; omega

theorem mark?_eq_none_iff (x : Byte) : mark? x = none ↔ 31 < x.toNat := by
  unfold mark?
  split
  · simp only [reduceCtorEq, false_iff]; omega
  · simp only [true_iff]; omega

theorem scope?_eq_some_iff (x : Byte) (sc : Scope) : scope? x = some sc ↔ x.toNat = sc.val := by
  unfold scope?
  split
  · simp only [Option.some.injEq, Fin.ext_iff]
  · simp only [reduceCtorEq, false_iff]; omega

theorem scope?_eq_none_iff (x : Byte) : scope? x = none ↔ 6 < x.toNat := by
  unfold scope?
  split
  · simp only [reduceCtorEq, false_iff]; omega
  · simp only [true_iff]; omega

/-! ## Codes -/

theorem mode?_eq_some_iff (x : Byte) (m : Mode) : mode? x = some m ↔ x.toNat = m.code := by
  unfold mode?
  split <;> cases m <;> simp_all [Mode.code]

theorem mode?_eq_none_iff (x : Byte) : mode? x = none ↔ 2 < x.toNat := by
  unfold mode?
  split <;> simp_all
  omega

theorem util?_eq_some_iff (x : Byte) (u : UtilId) : util? x = some u ↔ x.toNat = utilCode u := by
  unfold util?
  split <;> cases u <;> simp_all [utilCode]

theorem util?_eq_none_iff (x : Byte) : util? x = none ↔ 6 < x.toNat := by
  unfold util?
  split <;> simp_all
  omega

theorem washUtil?_eq_some_iff (x : Byte) (u : WashUtil) : washUtil? x = some u ↔ x.toNat = u.code := by
  unfold washUtil?
  split <;> cases u <;> simp_all [WashUtil.code]

theorem washUtil?_eq_none_iff (x : Byte) : washUtil? x = none ↔ 4 < x.toNat := by
  unfold washUtil?
  split <;> simp_all
  omega

theorem markOp?_eq_some_iff (x : Byte) (o : MarkOp) : markOp? x = some o ↔ x.toNat = o.code.toNat := by
  unfold markOp?
  split <;> cases o <;> simp_all [MarkOp.code]

theorem markOp?_eq_none_iff (x : Byte) : markOp? x = none ↔ 3 < x.toNat := by
  unfold markOp?
  split <;> simp_all
  omega

theorem scanOrder?_eq_some_iff (x : Byte) (o : ScanOrder) : scanOrder? x = some o ↔ x.toNat = o.code := by
  unfold scanOrder?
  split <;> cases o <;> simp_all [ScanOrder.code]

theorem scanOrder?_eq_none_iff (x : Byte) : scanOrder? x = none ↔ 3 < x.toNat := by
  unfold scanOrder?
  split <;> simp_all
  omega

theorem eventKind?_eq_some_iff (x : Byte) (k : EventKind) : eventKind? x = some k ↔ x.toNat = k.code := by
  unfold eventKind?
  split <;> cases k <;> simp_all [EventKind.code]

theorem prior?_eq_some_iff (x : Byte) (p : Option Cargo) : prior? x = some p ↔ x.toNat = priorCode p := by
  unfold prior?
  cases p with
  | none =>
    split
    · simp_all [priorCode]
    · simp_all [priorCode]
  | some c =>
    have hc : ∀ o : Option Cargo, o.map some = some (some c) ↔ o = some c := by simp
    split
    · simp only [priorCode, Option.some.injEq, reduceCtorEq, false_iff]; omega
    · rw [hc, cargo?_eq_some_iff]; rfl

theorem prior?_eq_none_iff (x : Byte) : prior? x = none ↔ 16 < x.toNat := by
  unfold prior?
  split
  · simp only [reduceCtorEq, false_iff]; omega
  · rw [Option.map_eq_none_iff, cargo?_eq_none_iff]; omega

theorem cargoOrNone?_eq_some_iff (x : Byte) (g : Option Cargo) : cargoOrNone? x = some g ↔ x.toNat = cargoCode g := by
  unfold cargoOrNone?
  cases g with
  | none =>
    split
    · simp_all [cargoCode]
    · simp_all [cargoCode]
  | some c =>
    have hc : ∀ o : Option Cargo, o.map some = some (some c) ↔ o = some c := by simp
    split
    · simp only [cargoCode, Option.some.injEq, reduceCtorEq, false_iff]; omega
    · rw [hc, cargo?_eq_some_iff]; rfl

theorem cargoOrNone?_eq_none_iff (x : Byte) : cargoOrNone? x = none ↔ 15 < x.toNat ∧ x.toNat ≠ 255 := by
  unfold cargoOrNone?
  split
  · simp only [reduceCtorEq, false_iff]; omega
  · rw [Option.map_eq_none_iff, cargo?_eq_none_iff]; omega

theorem carryEntry?_forbidden_iff (x : Byte) : carryEntry? x = some .forbidden ↔ x.toNat = 0x0F := by
  unfold carryEntry?
  split
  · simp_all
  · simp_all

theorem carryEntry?_required_iff (x : Byte) (k : Nat) : carryEntry? x = some (.required k) ↔ x.toNat = k ∧ 1 ≤ k ∧ k ≤ 7 := by
  unfold carryEntry?
  have hk : ∀ o : Option Nat, o.map CarryEntry.required = some (.required k) ↔ o = some k := by simp
  split
  · simp only [Option.some.injEq, reduceCtorEq, false_iff]; omega
  · rw [hk, class?_eq_some_iff]

theorem judgement?_rewash_iff (x : Byte) : judgement? x = some .rewash ↔ x.toNat = 0x10 := by
  unfold judgement?
  repeat' split
  all_goals simp_all

theorem judgement?_refer_iff (x : Byte) : judgement? x = some .refer ↔ x.toNat = 0x11 := by
  unfold judgement?
  repeat' split
  all_goals simp_all

theorem judgement?_pass_iff (x : Byte) (k : Nat) : judgement? x = some (.pass k) ↔ x.toNat = k ∧ 1 ≤ k ∧ k ≤ 7 := by
  unfold judgement?
  have hk : ∀ o : Option Nat, o.map Judgement.pass = some (.pass k) ↔ o = some k := by simp
  repeat' split
  · simp only [Option.some.injEq, reduceCtorEq, false_iff]; omega
  · simp only [Option.some.injEq, reduceCtorEq, false_iff]; omega
  · rw [hk, class?_eq_some_iff]

theorem chain?_follow_iff (x last : Byte) : chain? x last = some .follow ↔ x.toNat = 0 := by
  unfold chain?
  repeat' split
  all_goals simp_all

theorem chain?_bounded_iff (x last : Byte) (i : StepIx) :
    chain? x last = some (.bounded i) ↔ x.toNat = 1 ∧ last.toNat = i.val := by
  unfold chain?
  repeat' split
  all_goals simp_all [stepIx, Fin.ext_iff]

theorem chain?_eq_none_iff (x last : Byte) : chain? x last = none ↔ 1 < x.toNat := by
  unfold chain?
  repeat' split
  all_goals simp
  all_goals omega

end Sys2Proof.Machine
end

section
/-! PROOFS. The block's queue and its values after reset; timing, clock, audit settings, link settings and the table writes. -/

namespace Sys2Proof.Machine

/-- A request its link permits, on a free link: the state its owner leaves, with the owner's reply in hand (R171, R172). -/
theorem exec_answer {c : Instr} {l : LinkId} {tag : Byte} {r : Request} {s t : State} {x : Reply} (h : asRequest c = some (l, tag, r))
    (hf : s.LinkFree l) (hp : l = .office ∨ officeOnly r.kind = false) (ha : answer r s = (t, x)) :
    exec c s = .next (t.answered l r.kind tag x) := by
  have hperm : permitted l r.kind = true := by
    rcases hp with rfl | hp
    · exact permitted_office _
    · simp [permitted, hp]
  rw [exec_free h s hf hperm, ha]

/-! ## The queue, and reset -/

/-- Settles O1: `step` is defined by the two cases. -/
theorem stepTakesTheCommandInFront : Obligations.StepTakesTheCommandInFront := by
  refine ⟨fun c rest s h => ?_, fun s h => ?_⟩
  · rw [step, h]
  · rw [step, h]

/-- Settles O2: every clause is a field of `State.reset` evaluated. -/
theorem resetLeavesTheManualsValues : Obligations.ResetLeavesTheManualsValues := by
  refine ⟨rfl, by decide, rfl, by decide, rfl, rfl, ?_, ?_, rfl, rfl, rfl, ?_, ?_, ?_, by decide, rfl, ?_, rfl, by decide, rfl, rfl, rfl, rfl,
    rfl, ?_, by decide, ?_, by decide, rfl, rfl⟩
  · intro p c
    simp [State.carryEntry, State.reset]
  · intro i
    simp [State.entry, State.reset, StepStore.reset]
  · intro i
    simp [StepStore.pinned, State.reset, StepStore.reset]
  · intro i hi
    simp [State.verdictAt, State.reset, hi]
  · intro b z
    simp [State.residue, State.reset, ResidueMap.clear]
  · intro u
    cases u <;> decide
  · intro k
    cases k <;> decide
  · intro l
    cases l <;> rfl

/-- Settles O60: after reset every list is empty and every lane IDLE, so each invariant holds of the values themselves. -/
theorem resetMeetsTheInvariants : Obligations.ResetMeetsTheInvariants := by
  refine ⟨by unfold State.NoticeRoom; decide, by unfold State.LogRoom; decide, by unfold State.PoolRoom; decide,
    by unfold State.PointerInWindow; decide, by unfold State.HandsKept Link.HandKept; decide, by unfold State.CausesFollow; decide,
    by unfold State.OrdersFollow; decide, ?_, ?_, by unfold State.PendingKept; decide, ?_⟩
  · intro u _
    cases u <;> rfl
  · exact CertUnit.NumbersRun.of_nil rfl
  · exact emptyYard_sound _ (by decide) rfl (by decide) (by decide) rfl (fun u => by cases u <;> decide) (by decide) (by decide)

/-! ## Timing and clock -/

/-- Five limits above 0 are stored together. -/
theorem answerSetTiming_stores {a b c d e : Byte} (ha : a ≠ 0) (hb : b ≠ 0) (hc : c ≠ 0) (hd : d ≠ 0) (he : e ≠ 0) (s : State) :
    answerSetTiming a b c d e s =
      ({ s with timing := { seat := a.toNat, cold := b.toNat, drain := c.toNat, starve := d.toNat, fillStall := e.toNat } },
        .ok [a, b, c, d, e]) := by
  have hne : ∀ x : Byte, x ≠ 0 → x.toNat ≠ 0 := fun x hx h => hx ((toNat_eq_iff x 0).2 h)
  rw [answerSetTiming, if_neg]
  simp [hne _ ha, hne _ hb, hne _ hc, hne _ hd, hne _ he]

/-- A limit of 0 refuses all five. -/
theorem answerSetTiming_refused {a b c d e : Byte} (h : a = 0 ∨ b = 0 ∨ c = 0 ∨ d = 0 ∨ e = 0) (s : State) :
    answerSetTiming a b c d e s = (s, .refuse .badValue) := by
  rw [answerSetTiming, if_pos]
  rcases h with rfl | rfl | rfl | rfl | rfl <;> simp

/-- Settles O12: the owner's answer turns on whether a limit is 0. -/
theorem setTimingStoresTheFiveLimits : Obligations.SetTimingStoresTheFiveLimits := by
  intro tag a b c d e s hf
  refine ⟨fun ha hb hc hd he => ?_, fun h => ?_⟩
  · exact exec_answer (r := .setTiming a b c d e) rfl hf (.inl rfl) (answerSetTiming_stores ha hb hc hd he s)
  · exact exec_answer (r := .setTiming a b c d e) rfl hf (.inl rfl) (answerSetTiming_refused h s)

/-- Settles O13: a tick is the owner's own effect, SET_CLOCK its answer, and a filled certificate copies the clock. -/
theorem theYardClockCountsMinutes : Obligations.TheYardClockCountsMinutes := by
  refine ⟨fun s h => ?_, fun tag n s hf => ?_, fun s n r f => rfl⟩
  · exact congrArg _ (live_released s State.tick h)
  · exact exec_answer (r := .setClock n) rfl hf (.inl rfl) rfl

/-! ## Audit settings and the certificate base -/

theorem answerSetAudit_stores {h : Byte} (low : 1 ≤ h.toNat) (high : h.toNat ≤ 24) (p : Byte) (s : State) :
    answerSetAudit p h s =
      ((s.setCerts { s.certs with period := p.toNat, highWater := h.toNat }).judgeBacklog, .ok [p, h]) := by
  rw [answerSetAudit, if_pos ⟨low, high⟩]

theorem answerSetAudit_refused {h : Byte} (hh : h.toNat = 0 ∨ 24 < h.toNat) (p : Byte) (s : State) :
    answerSetAudit p h s = (s, .refuse .badValue) := by
  rw [answerSetAudit, if_neg (by omega)]

/-- A backlog flag that is as the level has it stays, with no event. -/
theorem judgeBacklog_same {s : State} (h : s.certs.backlog = decide (s.certs.highWater ≤ s.certs.log.length)) : s.judgeBacklog = s := by
  rw [State.judgeBacklog]
  exact if_pos h.symm

/-- A backlog flag that the level contradicts is turned over, with its event. -/
theorem judgeBacklog_turns {s : State} (h : s.certs.backlog ≠ decide (s.certs.highWater ≤ s.certs.log.length)) :
    s.judgeBacklog = (s.setCerts { s.certs with backlog := !s.certs.backlog }).raiseYard
      (.backlog (!s.certs.backlog) s.certs.log.length) := by
  have hnow : decide (s.certs.highWater ≤ s.certs.log.length) = !s.certs.backlog := Bool.eq_not.2 (Ne.symm h)
  rw [State.judgeBacklog]
  dsimp only
  rw [hnow, if_neg (by simp)]

theorem backlog_judgeBacklog (s : State) : s.judgeBacklog.certs.backlog = decide (s.certs.highWater ≤ s.certs.log.length) := by
  by_cases h : s.certs.backlog = decide (s.certs.highWater ≤ s.certs.log.length)
  · rw [judgeBacklog_same h, h]
  · rw [judgeBacklog_turns h]
    exact (Bool.eq_not.2 (Ne.symm h)).symm

/-- SET_CERT_BASE's checks in their order (R154), by its three conditions. -/
theorem answerSetCertBase_eq (n : BitVec 32) (s : State) :
    answerSetCertBase n s =
      if s.mode ≠ .dormant then (s, .refuse .wrongMode)
      else if s.certs.log ≠ [] then (s, .refuse .wrongState)
      else if n = 0 then (s, .refuse .badValue)
      else (s.setCerts { s.certs with next := some n.toNat }, .ok []) := by
  have hlog : (s.certs.log.isEmpty = false) ↔ s.certs.log ≠ [] := by simp
  have hn : n.toNat = 0 ↔ n = 0 := (BitVec.toNat_inj (y := 0)).trans Iff.rfl
  simp only [answerSetCertBase, hlog, hn]

/-- Settles O14: SET_AUDIT and SET_CERT_BASE by their checks, and the backlog's judgement by whether the flag is as the level has it. -/
theorem auditSettingsAndTheCertificateBaseAreStored : Obligations.AuditSettingsAndTheCertificateBaseAreStored := by
  have base : ∀ {tag : Byte} {n : BitVec 32} {s t : State} {x : Reply}, s.LinkFree .office → answerSetCertBase n s = (t, x) →
      exec (.setCertBase .office tag n) s = .next (t.answered .office 0x08 tag x) := fun hf hx =>
    exec_answer (r := .setCertBase _) rfl hf (.inl rfl) hx
  refine ⟨fun tag p h s hf => ⟨fun low high => ?_, fun hh => ?_⟩, backlog_judgeBacklog, fun s => judgeBacklog_same,
    fun s => judgeBacklog_turns, fun tag n s => ⟨fun hf => ?_, fun hf => ⟨fun hm => ?_, fun hm hl => ?_, fun hm hl hn => ?_, fun hm hl hn => ?_⟩⟩⟩
  · exact exec_answer (r := .setAudit p h) rfl hf (.inl rfl) (answerSetAudit_stores low high p s)
  · exact exec_answer (r := .setAudit p h) rfl hf (.inl rfl) (answerSetAudit_refused hh p s)
  · exact exec_free_notPermitted (r := .setCertBase n) rfl s hf rfl
  · exact base hf (by rw [answerSetCertBase_eq, if_pos hm])
  · exact base hf (by rw [answerSetCertBase_eq, if_neg (by simp [hm]), if_pos hl])
  · exact base hf (by rw [answerSetCertBase_eq, if_neg (by simp [hm]), if_neg (by simp [hl]), if_pos hn])
  · exact base hf (by rw [answerSetCertBase_eq, if_neg (by simp [hm]), if_neg (by simp [hl]), if_neg hn])

/-! ## Link settings -/

namespace NoticeUnit

theorem setUp_settings (u : NoticeUnit) (masks : Vector Bool 14) (v o : Bool) :
    (u.setUp masks v o).masks = masks ∧ (u.setUp masks v o).showMasked = v ∧ (u.setUp masks v o).output = o := by
  obtain ⟨hm, hs, ho⟩ := Machine.judge_settings { u with masks := masks, showMasked := v, output := o } true
  obtain ⟨km, ks, ko⟩ := Machine.judge_settings (({ u with masks := masks, showMasked := v, output := o } : NoticeUnit).judge true) false
  exact ⟨km.trans hm, ks.trans hs, ko.trans ho⟩

theorem masked_eq {u : NoticeUnit} {k : EventKind} {i : Fin 14} (h : i.val + 1 = k.code) : u.masked k = u.masks[i] := by
  have hk : ∀ k : EventKind, k.ix.val + 1 = k.code := by intro k; cases k <;> rfl
  have hi : k.ix = i := Fin.ext (by have := hk k; omega)
  subst hi
  rfl

end NoticeUnit

/-- Bits read from the lowest up give the number back, as far as they were taken. -/
theorem foldr_testBits (k n : Nat) :
    (List.ofFn fun i : Fin k => n.testBit i.val).foldr (fun b r => 2 * r + (if b then 1 else 0)) 0 = n % 2 ^ k := by
  induction k generalizing n with
  | zero => simp [Nat.mod_one]
  | succ k ih =>
    have hhalf : ∀ i : Fin k, n.testBit (i.val + 1) = (n / 2).testBit i.val := fun i => Nat.testBit_add_one n i.val
    have hbit : (if n.testBit 0 = true then 1 else 0) = n % 2 := by
      rw [Nat.testBit_zero]
      rcases Nat.mod_two_eq_zero_or_one n with h | h <;> simp [h]
    rw [List.ofFn_succ, List.foldr_cons]
    simp only [Fin.val_succ, hhalf, ih]
    rw [show n.testBit (0 : Fin (k + 1)).val = n.testBit 0 from rfl, hbit, Nat.pow_succ, Nat.mul_comm (2 ^ k) 2, Nat.mod_mul]
    omega

theorem maskBits_masksOf (m : BitVec 16) (h : m.toNat < 2 ^ 14) : maskBits (masksOf m) = m.toNat := by
  have hl : (masksOf m).toList = List.ofFn fun i : Fin 14 => m.toNat.testBit i.val := by
    simp [masksOf, BitVec.getLsbD, Vector.toList_ofFn]
  rw [maskBits, hl, foldr_testBits, Nat.mod_eq_of_lt h]

/-- A number's two bytes are the halves of its field. -/
theorem bytes2_toNat (m : BitVec 16) : bytes2 m.toNat = [m.extractLsb' 8 8, m.extractLsb' 0 8] := by
  have hhigh : byte (m.toNat / 256) = m.extractLsb' 8 8 := by
    apply BitVec.eq_of_toNat_eq
    simp [byte, BitVec.extractLsb'_toNat, Nat.shiftRight_eq_div_pow]
  have hlow : byte m.toNat = m.extractLsb' 0 8 := by
    apply BitVec.eq_of_toNat_eq
    simp [byte, BitVec.extractLsb'_toNat]
  rw [bytes2, hhigh, hlow]

theorem flag_decide_toNat (x : Byte) (h : x.toNat ≤ 1) : flag (decide (x.toNat = 1)) = x := by
  rw [toNat_eq_iff]
  rcases Nat.le_one_iff_eq_zero_or_eq_one.1 h with h | h <;> simp [h, flag]

theorem bool?_of_le {x : Byte} (h : x.toNat ≤ 1) : bool? x = some (decide (x.toNat = 1)) := by
  unfold bool?
  rcases Nat.le_one_iff_eq_zero_or_eq_one.1 h with h | h <;> simp [h]

theorem answerLinkSetup_stores {o v : Byte} {m : BitVec 16} (ho : o.toNat ≤ 1) (hv : v.toNat ≤ 1) (hm : m.toNat < 2 ^ 14) (s : State) :
    answerLinkSetup o v m s = (s.setNotices (s.notices.setUp (masksOf m) (decide (v.toNat = 1)) (decide (o.toNat = 1))),
      .ok [o, v, m.extractLsb' 8 8, m.extractLsb' 0 8, byte s.officeRate]) := by
  obtain ⟨km, ks, ko⟩ := NoticeUnit.setUp_settings s.notices (masksOf m) (decide (v.toNat = 1)) (decide (o.toNat = 1))
  have hm' : m.toNat < 16384 := hm
  simp only [answerLinkSetup, bool?_of_le ho, bool?_of_le hv, if_pos hm', km, ks, ko, maskBits_masksOf m hm, bytes2_toNat,
    flag_decide_toNat o ho, flag_decide_toNat v hv]
  rfl

theorem answerLinkSetup_refused {o v : Byte} {m : BitVec 16} (h : 1 < o.toNat ∨ 1 < v.toNat ∨ 2 ^ 14 ≤ m.toNat) (s : State) :
    answerLinkSetup o v m s = (s, .refuse .badValue) := by
  unfold answerLinkSetup
  split
  · next ho hv =>
    have hlow : ∀ x : Byte, bool? x ≠ none → ¬ 1 < x.toNat := fun x hx h => hx ((bool?_eq_none_iff x).2 h)
    have hm : ¬ m.toNat < 16384 := by
      have := hlow o (by simp [ho])
      have := hlow v (by simp [hv])
      omega
    rw [if_neg hm]
  · rfl

/-- Settles O15: the owner's answer turns on the three ranges, and no logging changes the masks it stored. -/
theorem linkSetupStoresAndJudges : Obligations.LinkSetupStoresAndJudges := by
  refine ⟨fun tag o v m s hf => ⟨fun ho hv hm => ?_, fun h => ?_⟩, fun u k i h => NoticeUnit.masked_eq h⟩
  · refine ⟨_, rfl, fun k => ?_, exec_answer (r := .linkSetup o v m) rfl hf (.inl rfl) (answerLinkSetup_stores ho hv hm s)⟩
    obtain ⟨km, -, -⟩ := NoticeUnit.setUp_settings s.notices (masksOf m) (decide (v.toNat = 1)) (decide (o.toNat = 1))
    have hk : k.code - 1 < 14 ∧ 1 ≤ k.code := by cases k <;> decide
    rw [NoticeUnit.masked_eq (i := ⟨k.code - 1, hk.1⟩) (by simp; omega)]
    refine (congrArg (fun ms : Vector Bool 14 => ms[(⟨k.code - 1, hk.1⟩ : Fin 14)]) km).trans ?_
    simp [masksOf]
  · exact exec_answer (r := .linkSetup o v m) rfl hf (.inl rfl) (answerLinkSetup_refused h s)

/-! ## The carry-over table and the verdict table -/

/-- A row's byte names it. -/
theorem row?_of_val {row : Byte} {r : Fin 17} (h : row.toNat = r.val) : row? row = some r := by
  by_cases hr : r.val = 16
  · have hrow : row? row = some (rowIx none) := row?_of_priorCode (p := none) (h.trans hr)
    rw [hrow]
    exact congrArg some (Fin.ext hr.symm)
  · have hlt : r.val < 16 := by omega
    have hrow : row? row = some (rowIx (some ⟨r.val, hlt⟩)) := row?_of_priorCode (p := some ⟨r.val, hlt⟩) h
    rw [hrow]
    exact congrArg some (Fin.ext rfl)

theorem carryRow?_eq_some {es : Vector Byte 16} {new : Vector CarryEntry 16} (h : ∀ y : Cargo, carryEntry? es[y] = some new[y]) :
    carryRow? es = some new := by
  have hall : all? carryEntry? es.toList = some new.toList := by
    rw [all?_eq_some_iff]
    apply List.ext_getElem
    · simp
    · intro i hi _
      have hi16 : i < 16 := by simpa using hi
      simpa using h ⟨i, hi16⟩
  simp [carryRow?, hall, Vector.toArray_toList]

theorem carryRow?_eq_none {es : Vector Byte 16} (h : ∃ y : Cargo, carryEntry? es[y] = none) : carryRow? es = none := by
  obtain ⟨y, hy⟩ := h
  have hall : all? carryEntry? es.toList = none := (all?_eq_none_iff _ _).2 ⟨es[y], by simp, hy⟩
  simp [carryRow?, hall]

/-- Settles O17: the row and its entries are read or refused whole, and a lookup is the row's entry. -/
theorem loadCarryoverReplacesTheRowWhole : Obligations.LoadCarryoverReplacesTheRowWhole := by
  intro tag row es s hf
  refine ⟨fun r new hr hnew => ?_, fun h => ?_, fun c => ⟨rfl, fun p => rfl⟩, rfl, fun k => rfl⟩
  · refine exec_answer (r := .loadCarryover row es) rfl hf (.inl rfl) ?_
    simp only [answer, answerLoadCarryover, row?_of_val hr, carryRow?_eq_some hnew, rowBytes]
  · refine exec_answer (r := .loadCarryover row es) rfl hf (.inl rfl) ?_
    show answerLoadCarryover row es s = _
    unfold answerLoadCarryover
    split
    · next hr hes =>
      rcases h with h | h
      · rw [row?_eq_none h] at hr; cases hr
      · rw [carryRow?_eq_none h] at hes; cases hes
    · rfl

/-- Entries written from an index upward: each in its place, and every other entry left. -/
theorem getElem_writeVerdicts (t : Vector Judgement 64) (n : Nat) (js : List Judgement) (i : Fin 64) :
    (writeVerdicts t n js)[i] = if n ≤ i.val ∧ i.val < n + js.length then js.getD (i.val - n) .refer else t[i] := by
  induction js generalizing t n with
  | nil => rw [writeVerdicts, if_neg (by simp)]
  | cons j js ih =>
    rw [writeVerdicts, ih]
    by_cases h : n = i.val
    · subst h
      simp
    · by_cases hin : n + 1 ≤ i.val ∧ i.val < n + 1 + js.length
      · have hsub : i.val - n = (i.val - (n + 1)) + 1 := by omega
        rw [if_pos hin, if_pos (by simp only [List.length_cons]; omega), hsub, List.getD_cons_succ]
      · rw [if_neg hin, if_neg (by simp only [List.length_cons]; omega)]
        simp [h]

/-- Settles O19: the run's ranges and its outcomes are judged whole, and the entries written one after another. -/
theorem loadVerdictWritesTheRun : Obligations.LoadVerdictWritesTheRun := by
  intro tag first os s hf
  refine ⟨fun js hjs h63 h1 h16 h64 => ⟨writeVerdicts s.verdicts first.toNat js, ?_, fun i => ?_⟩, fun h => ?_, fun i => ?_⟩
  · refine exec_answer (r := .loadVerdict first os) rfl hf (.inl rfl) ?_
    simp only [answer, answerLoadVerdict, (all?_eq_some_iff judgement? os js).2 hjs, State.verdictBytes]
    rw [if_neg (by omega)]
  · have hlen : os.length = js.length := by simpa using congrArg List.length hjs
    rw [getElem_writeVerdicts, hlen]
  · refine exec_answer (r := .loadVerdict first os) rfl hf (.inl rfl) ?_
    show answerLoadVerdict first os s = _
    unfold answerLoadVerdict
    split
    · rfl
    · next hr =>
      have hbad : ∃ o ∈ os, judgement? o = none := by
        rcases h with h | h | h | h | h
        · omega
        · omega
        · omega
        · omega
        · exact h
      rw [(all?_eq_none_iff _ _).2 hbad]
  · simp [State.verdictAt]

end Sys2Proof.Machine
end

section
/-! PROOFS. The link unit (R168 to R173): frames arriving, the receiver's table, REJECTs, and the transmitters' choice. -/

namespace Sys2Proof.Machine

/-! ## Serving a frame -/

theorem permitted_eq (l : LinkId) (kind : Byte) : permitted l kind = !decide (l = .panel ∧ officeOnly kind = true) := by
  cases l <;> cases h : officeOnly kind <;> simp [permitted, h]

theorem serve_request (l : LinkId) (kind : Byte) (s : State) (r : Request) : s.serve l kind (.request r) =
    if l = .panel ∧ officeOnly kind = true then (s, .refuse .notPermitted) else answer r s := by
  simp only [State.serve, permitted_eq]
  by_cases h : l = .panel ∧ officeOnly kind = true <;> simp [h]

theorem serve_badLength (l : LinkId) (kind : Byte) (s : State) : s.serve l kind .badLength =
    (s, .refuse (if l = .panel ∧ officeOnly kind = true then .notPermitted else .badLength)) := by
  simp only [State.serve, permitted_eq]
  by_cases h : l = .panel ∧ officeOnly kind = true <;> simp [h]

/-- Settles O3: a row is its frame's arrival, and an arrival turns on the buffer and the request in hand. -/
theorem framesAreTakenOrWaitOrAreLost : Obligations.FramesAreTakenOrWaitOrAreLost := by
  refine ⟨fun c l tag r s hc => ⟨fun hf hp => exec_answer hc hf hp rfl, fun hl hh hb => ?_, fun hl hb => ?_⟩,
    fun l tag kind body s hl => ?_, fun l f x s => ⟨arrive_overrun s l f x, arrive_waits s l f x, arrive_free s l f x⟩,
    fun _ _ _ _ _ => rfl, fun l kind s => ⟨rfl, serve_badLength l kind s, serve_request l kind s⟩, fun _ _ => ⟨rfl, rfl⟩,
    fun _ _ _ _ _ => ⟨rfl, rfl⟩, fun _ _ => ⟨rfl, rfl, rfl, rfl⟩⟩
  · rw [exec_asRequest hc, State.request, live_released _ _ hl, arrive_waits s l _ _ hb hh]
    rfl
  · rw [exec_asRequest hc, State.request, live_released _ _ hl, arrive_overrun s l _ _ hb]
  · exact congrArg _ (live_released s _ hl)

/-! ## The receiver -/

/-- A row that is an event of the working part: its effect, and then each free transmitter's choice. -/
theorem exec_live {c : Instr} {s t : State} {f : State → State} (h : exec c s = .next (s.live f)) (hl : s.pins.resetHeld = false)
    (hf : f s = t) : exec c s = .next t.choose := by
  rw [h, live_released _ _ hl, hf]

theorem exec_frameByte {l : LinkId} {b : Byte} {s t : State} (hl : s.pins.resetHeld = false) (h : s.linkByte l b = t) :
    exec (.frameByteReceived l b) s = .next t.choose := exec_live (f := fun t => t.linkByte l b) rfl hl h

/-- A check's two bytes, high byte first, are the check. -/
theorem crcBytes_eq_iff (bs : List Byte) (high low : Byte) : crcBytes bs = (high, low) ↔ crc16 bs = high ++ low := by
  have hc := (crc16 bs).isLt
  have hh := high.isLt
  have hlow := low.isLt
  have hcat : (high ++ low).toNat = high.toNat * 256 + low.toNat := by
    rw [BitVec.toNat_append, ← Nat.shiftLeft_add_eq_or_of_lt low.isLt, Nat.shiftLeft_eq]
  rw [crcBytes, Prod.mk.injEq, toNat_eq_iff, toNat_eq_iff, ← BitVec.toNat_inj, hcat]
  simp only [byte, BitVec.toNat_ofNat]
  omega

theorem linkByte_start {s : State} {l : LinkId} {b : Byte} (h : (s.link l).assembly = .hunting) (hb : b = 0x5E) :
    s.linkByte l b = s.setLink l { s.link l with assembly := .length, gapTimer := true } := by
  simp only [State.linkByte, h, if_pos hb]

theorem linkByte_hunting {s : State} {l : LinkId} {b : Byte} (h : (s.link l).assembly = .hunting) (hb : b ≠ 0x5E) :
    s.linkByte l b = s := by
  simp only [State.linkByte, h, if_neg hb]

theorem linkByte_length {s : State} {l : LinkId} {b : Byte} (h : (s.link l).assembly = .length) (h3 : 3 ≤ b.toNat) (h250 : b.toNat ≤ 250) :
    s.linkByte l b = s.setLink l { s.link l with assembly := .content b [], gapTimer := true } := by
  simp only [State.linkByte, h, if_pos (And.intro h3 h250)]

theorem linkByte_badLength {s : State} {l : LinkId} {b : Byte} (h : (s.link l).assembly = .length) (hb : b.toNat < 3 ∨ 250 < b.toNat) :
    s.linkByte l b = s.setLink l ((s.link l).hunt.fail .badLength) := by
  have hn : ¬ (3 ≤ b.toNat ∧ b.toNat ≤ 250) := by omega
  simp only [State.linkByte, h, if_neg hn]

theorem linkByte_content {s : State} {l : LinkId} {b len : Byte} {got : List Byte} (h : (s.link l).assembly = .content len got)
    (hn : got.length + 1 < len.toNat) :
    s.linkByte l b = s.setLink l { s.link l with assembly := .content len (got ++ [b]), gapTimer := true } := by
  have hle : ¬ len.toNat ≤ (got ++ [b]).length := by simpa using hn
  simp only [State.linkByte, h, if_neg hle]

theorem linkByte_lastContent {s : State} {l : LinkId} {b len : Byte} {got : List Byte} (h : (s.link l).assembly = .content len got)
    (hn : got.length + 1 = len.toNat) :
    s.linkByte l b = s.setLink l { s.link l with assembly := .check len (got ++ [b]) [], gapTimer := true } := by
  have hle : len.toNat ≤ (got ++ [b]).length := by simpa using hn.ge
  simp only [State.linkByte, h, if_pos hle]

theorem linkByte_firstCheck {s : State} {l : LinkId} {b len : Byte} {content : List Byte}
    (h : (s.link l).assembly = .check len content []) :
    s.linkByte l b = s.setLink l { s.link l with assembly := .check len content [b], gapTimer := true } := by
  simp only [State.linkByte, h]

theorem linkByte_judged {s : State} {l : LinkId} {b len high : Byte} {content : List Byte}
    (h : (s.link l).assembly = .check len content [high]) : s.linkByte l b = s.judgeFrame l len content high b := by
  simp only [State.linkByte, h]

theorem judgeFrame_arrives {s : State} {l : LinkId} {len kind tag high low : Byte} {body : List Byte}
    (hc : crc16 (len :: kind :: tag :: body) = high ++ low) (hk : kind.toNat < 0x40) :
    s.judgeFrame l len (kind :: tag :: body) high low =
      (s.setLink l (s.link l).hunt).arrive l { kind := kind, tag := tag, body := body } (readRequest kind body) := by
  simp only [State.judgeFrame, if_pos ((crcBytes_eq_iff _ _ _).2 hc), if_pos hk]

theorem judgeFrame_badKind {s : State} {l : LinkId} {len kind tag high low : Byte} {body : List Byte}
    (hc : crc16 (len :: kind :: tag :: body) = high ++ low) (hk : 0x40 ≤ kind.toNat) :
    s.judgeFrame l len (kind :: tag :: body) high low = s.setLink l ((s.link l).hunt.fail .badKind) := by
  simp only [State.judgeFrame, if_pos ((crcBytes_eq_iff _ _ _).2 hc), if_neg (Nat.not_lt.2 hk), link_setLink, setLink_setLink]

theorem judgeFrame_badCrc {s : State} {l : LinkId} {len high low : Byte} {content : List Byte}
    (hc : crc16 (len :: content) ≠ high ++ low) :
    s.judgeFrame l len content high low = s.setLink l ((s.link l).hunt.fail .badCrc) := by
  have hb : crcBytes (len :: content) ≠ (high, low) := fun h => hc ((crcBytes_eq_iff _ _ _).1 h)
  simp only [State.judgeFrame, if_neg hb, link_setLink, setLink_setLink]

/-- Settles O7: the receiver's table row by row. -/
theorem linkReceiverFollowsTheTable : Obligations.LinkReceiverFollowsTheTable := fun _ _ _ hl =>
  ⟨fun h hb => exec_frameByte hl (linkByte_start h hb),
    fun h hb => exec_frameByte hl (linkByte_hunting h hb),
    fun h h3 h250 => exec_frameByte hl (linkByte_length h h3 h250),
    fun h hb => exec_frameByte hl (linkByte_badLength h hb),
    fun _ _ h hn => exec_frameByte hl (linkByte_content h hn),
    fun _ _ h hn => exec_frameByte hl (linkByte_lastContent h hn),
    fun _ _ h => exec_frameByte hl (linkByte_firstCheck h),
    fun _ _ _ _ _ h hc hk => exec_frameByte hl ((linkByte_judged h).trans (judgeFrame_arrives hc hk)),
    fun _ _ _ _ _ h hc hk => exec_frameByte hl ((linkByte_judged h).trans (judgeFrame_badKind hc hk)),
    fun _ _ _ h hc => exec_frameByte hl ((linkByte_judged h).trans (judgeFrame_badCrc hc))⟩

/-! ## REJECTs and sent frames -/

theorem fail_fresh {x : Link} (h : x.reject = none) (reason : RejectReason) :
    (x.fail reason).reject = some { reason := reason, lost := 1 } ∧ (x.fail reason).rejectFirst = decide (x.reply = none) := by
  simp only [Link.fail, h, true_and]
  cases x.reply <;> rfl

theorem fail_folded {x : Link} {r : Reject} (h : x.reject = some r) (reason : RejectReason) :
    (x.fail reason).reject = some { reason := reason, lost := min 255 (r.lost + 1) } ∧ (x.fail reason).rejectFirst = x.rejectFirst := by
  simp only [Link.fail, h, satAdd, Config.max8, and_self]

theorem frameError_rejects {s : State} {l : LinkId} {e : FrameError} (h : e = .overrun → (s.link l).buffer.isSome = true) :
    s.frameError l e = s.setLink l ((s.link l).hunt.fail (rejectReasonOf e)) := by
  have hn : ¬ (e = .overrun ∧ (s.link l).buffer.isNone = true) := fun ⟨he, hb⟩ => by
    have := h he
    rw [Option.isNone_iff_eq_none] at hb
    simp [hb] at this
  simp only [State.frameError, if_neg hn]

theorem linkGap_rejects {s : State} {l : LinkId} (ha : (s.link l).assembly ≠ .hunting) (hg : (s.link l).gapTimer = true) :
    s.linkGap l = s.setLink l ((s.link l).hunt.fail .gap) := by
  have hn : ¬ ((s.link l).assembly = .hunting ∨ (s.link l).gapTimer = false) := by simp [ha, hg]
  simp only [State.linkGap, if_neg hn]

/-- A sent frame's link without a frame waiting, or with the request in hand still: nothing is taken. -/
theorem frameSent_rests {s : State} {l : LinkId} {x : Link} (hx : (s.link l).sent = x) (h : x.inHand = true ∨ x.buffer = none) :
    s.frameSent l = s.setLink l x := by
  simp only [State.frameSent, hx]
  rcases h with h | h
  · split
    · rw [if_pos h]
    · rfl
  · rw [h]

theorem frameSent_takes {s : State} {l : LinkId} {x : Link} {g : Frame} (hx : (s.link l).sent = x) (hh : x.inHand = false)
    (hb : x.buffer = some g) :
    s.frameSent l = (s.setLink l { x with buffer := none }).takeFrame l g.kind g.tag (readRequest g.kind g.body) := by
  simp only [State.frameSent, hx, hb, hh]
  rfl

theorem sent_reply {x : Link} {f : Frame} (h : x.sending = some (.reply f)) : x.sent = { x with sending := none, inHand := false } := by
  simp only [Link.sent, h]
theorem sent_reject {x : Link} {r : Reject} (h : x.sending = some (.reject r)) : x.sent = { x with sending := none } := by
  simp only [Link.sent, h]
theorem sent_notice {x : Link} {n : Notice} (h : x.sending = some (.notice n)) : x.sent = { x with sending := none } := by
  simp only [Link.sent, h]
theorem sent_nothing {x : Link} (h : x.sending = none) : x.sent = x := by
  simp only [Link.sent, h]

/-- Settles O6: errors and the gap timer by whether they end a frame, and a frame's end by what was going out. -/
theorem frameErrorsMakeOneRejectAndSentFramesFreeTheLink : Obligations.FrameErrorsMakeOneRejectAndSentFramesFreeTheLink := by
  refine ⟨fun l e s hl he => ?_, fun l s hl ha hg => ?_, fun l s hl => ⟨fun hb => ?_, fun h => ?_⟩, fun x reason h => fail_fresh h reason,
    fun x reason r h => fail_folded h reason, fail_fields, fun _ => rfl, rfl, fun x f => ?_, fun l s hl => ?_⟩
  · exact exec_live (f := fun t => t.frameError l e) rfl hl (frameError_rejects he)
  · exact exec_live (f := fun t => t.linkGap l) rfl hl (linkGap_rejects ha hg)
  · refine exec_live (f := fun t => t.frameError l .overrun) rfl hl ?_
    simp only [State.frameError, hb, Option.isNone_none, and_self, if_true]
  · refine exec_live (f := fun t => t.linkGap l) rfl hl ?_
    simp only [State.linkGap, if_pos h]
  · have hr : x.reject.isSome = decide (x.reject ≠ none) := by cases x.reject <;> rfl
    rw [Link.answer, hr]
  · have sent : ∀ {t : State}, s.frameSent l = t → exec (.frameSent l) s = .next t.choose := fun h =>
      exec_live (f := fun t => t.frameSent l) rfl hl h
    refine ⟨fun f hs hb => sent (frameSent_rests (sent_reply hs) (.inr hb)),
      fun f g hs hb => sent (frameSent_takes (sent_reply hs) rfl hb), fun r hs h => sent (frameSent_rests (sent_reject hs) h),
      fun n hs h => sent (frameSent_rests (sent_notice hs) h), fun hs h => sent ?_⟩
    rw [frameSent_rests (sent_nothing hs) h, setLink_link]

/-! ## The transmitters' choice -/

theorem choose_sending {x : Link} (h : x.sending ≠ none) : x.choose = x := by
  unfold Link.choose
  split
  · rfl
  · next hs => exact absurd hs h

theorem choose_nothing {x : Link} (hs : x.sending = none) (hr : x.reply = none) (hj : x.reject = none) : x.choose = x := by
  simp only [Link.choose, hs, hr, hj]

theorem choose_reply {x : Link} {f : Frame} (hs : x.sending = none) (hr : x.reply = some f)
    (hj : x.reject = none ∨ x.rejectFirst = false) : x.choose = { x with sending := some (.reply f), reply := none } := by
  cases hreject : x.reject with
  | none => simp only [Link.choose, hs, hr, hreject]
  | some r =>
    rcases hj with hj | hj
    · rw [hj] at hreject; cases hreject
    · simp only [Link.choose, hs, hr, hreject, hj]
      rfl

theorem choose_reject {x : Link} {r : Reject} (hs : x.sending = none) (hj : x.reject = some r)
    (hr : x.reply = none ∨ x.rejectFirst = true) :
    x.choose = { x with sending := some (.reject r), reject := none, rejectFirst := false } := by
  cases hreply : x.reply with
  | none => simp only [Link.choose, hs, hj, hreply]
  | some f =>
    rcases hr with hr | hr
    · rw [hr] at hreply; cases hreply
    · simp only [Link.choose, hs, hj, hreply, hr, if_true]

theorem choose_isNotice {x : Link} {n : Notice} (h : x.choose.sending = some (.notice n)) : x.sending = some (.notice n) := by
  unfold Link.choose at h
  split at h
  · exact h
  · next hs =>
    split at h
    · exact h
    · cases h
    · cases h
    · split at h <;> cases h

/-- After its choice a free transmitter has nothing that waits: it is sending, or neither reply nor REJECT stands. -/
theorem choose_free {x : Link} (h : x.choose.sending = none) : x.sending = none ∧ x.reply = none ∧ x.reject = none := by
  unfold Link.choose at h
  split at h
  · next hs => rw [hs] at h; cases h
  · next hs =>
    split at h
    · next hr hj => exact ⟨hs, hr, hj⟩
    · cases h
    · cases h
    · split at h <;> cases h

theorem take_off {u : NoticeUnit} (h : u.output = false) : u.take = none := by
  rw [NoticeUnit.take, if_neg (by simp [h])]

theorem take_empty {u : NoticeUnit} (hu : u.urgent = []) (hr : u.routine = []) : u.take = none := by
  rw [NoticeUnit.take, hu, hr, ite_self]

theorem take_urgent {u : NoticeUnit} {n : Notice} {rest : List Notice} (ho : u.output = true) (hu : u.urgent = n :: rest) :
    u.take = some (n, ({ u with urgent := rest } : NoticeUnit).judge true) := by
  rw [NoticeUnit.take, if_pos ho, hu]

theorem take_routine {u : NoticeUnit} {n : Notice} {rest : List Notice} (ho : u.output = true) (hu : u.urgent = [])
    (hr : u.routine = n :: rest) : u.take = some (n, ({ u with routine := rest } : NoticeUnit).judge false) := by
  rw [NoticeUnit.take, if_pos ho, hu, hr]

theorem chooseNotice_sending {s : State} (h : s.office.sending ≠ none) : s.chooseNotice = s := by
  unfold State.chooseNotice
  split
  · rfl
  · next hs => exact absurd hs h

theorem chooseNotice_none {s : State} (h : s.notices.take = none) : s.chooseNotice = s := by
  unfold State.chooseNotice
  rw [h]
  split <;> rfl

theorem chooseNotice_takes {s : State} {n : Notice} {u : NoticeUnit} (hs : s.office.sending = none) (h : s.notices.take = some (n, u)) :
    s.chooseNotice = { s with office := { s.office with sending := some (.notice n) }, notices := u } := by
  unfold State.chooseNotice
  rw [hs, h]
  rfl

/-- The machine with each link's own choice made, before the office's choice of a notice. -/
theorem choose_eq (s : State) : s.choose = ({ s with office := s.office.choose, panel := s.panel.choose } : State).chooseNotice := rfl

/-- A choice of a notice changes the office link's frame going out and the notice unit, and no more. -/
theorem chooseNotice_eq (s : State) : ∃ x u, s.chooseNotice = { s with office := { s.office with sending := x }, notices := u } := by
  unfold State.chooseNotice
  split
  · exact ⟨s.office.sending, s.notices, rfl⟩
  · split
    · exact ⟨s.office.sending, s.notices, rfl⟩
    · next n u _ => exact ⟨some (.notice n), u, rfl⟩

theorem choose_panel (s : State) : s.choose.panel = s.panel.choose := by
  obtain ⟨x, u, h⟩ := chooseNotice_eq { s with office := s.office.choose, panel := s.panel.choose }
  rw [choose_eq, h]

/-- Where the office's own choice leaves it sending, no notice is taken. -/
theorem choose_office_busy {s : State} (h : s.office.choose.sending ≠ none) :
    s.choose = { s with office := s.office.choose, panel := s.panel.choose } := by
  exact (choose_eq s).trans (chooseNotice_sending (s := { s with office := s.office.choose, panel := s.panel.choose }) h)

theorem choose_noNotice {s : State} (h : s.notices.take = none) :
    s.choose = { s with office := s.office.choose, panel := s.panel.choose } := by
  exact (choose_eq s).trans (chooseNotice_none (s := { s with office := s.office.choose, panel := s.panel.choose }) h)

theorem choose_notice {s : State} {n : Notice} {u : NoticeUnit} (hs : s.office.sending = none) (hr : s.office.reply = none)
    (hj : s.office.reject = none) (h : s.notices.take = some (n, u)) :
    s.choose = { s with office := { s.office with sending := some (.notice n) }, panel := s.panel.choose, notices := u } := by
  have ho : s.office.choose = s.office := choose_nothing hs hr hj
  rw [choose_eq, ho]
  exact chooseNotice_takes (s := { s with office := s.office, panel := s.panel.choose }) hs h

/-- A link whose own choice is `x`, a frame going out, has made that choice. -/
theorem choose_link {s : State} {l : LinkId} (h : (s.link l).choose.sending ≠ none) : s.choose.link l = (s.link l).choose := by
  cases l
  · exact (choose_office_busy h).symm ▸ rfl
  · exact choose_panel s

/-- Settles O10: each transmitter's choice by what waits on its link, and the office's notice by the queues. -/
theorem freeTransmittersChooseInOrder : Obligations.FreeTransmittersChooseInOrder := by
  intro s
  have busy : s.office.choose.sending ≠ none → s.choose.notices = s.notices := fun h => by rw [choose_office_busy h]
  refine ⟨fun l h => ?_, fun h => ?_, fun hs hr hj => ?_, fun hs hr hj hq => ?_, fun l f hs hr hj => ?_, fun l r hs hj hr => ?_,
    fun n rest hs hr hj ho hu => ?_, fun n rest hs hr hj ho hu hn => ?_, fun ho => ?_, fun n h => ?_, fun l => ?_, ?_⟩
  · have hc := choose_sending h
    rw [choose_link (by rw [hc]; exact h), hc]
  · exact busy (by rw [choose_sending h]; exact h)
  · rw [choose_panel, choose_nothing hs hr hj]
  · have ht : s.notices.take = none := by
      rcases hq with ho | ⟨hu, hr⟩
      · exact take_off ho
      · exact take_empty hu hr
    have hc := choose_noNotice ht
    rw [choose_nothing hs hr hj] at hc
    exact ⟨by rw [hc], by rw [hc]⟩
  · have hc := choose_reply hs hr hj
    rw [choose_link (by rw [hc]; simp), hc]
  · have hc := choose_reject hs hj hr
    rw [choose_link (by rw [hc]; simp), hc]
  · have hc := choose_notice hs hr hj (take_urgent ho hu)
    exact ⟨by rw [hc], by rw [hc]⟩
  · have hc := choose_notice hs hr hj (take_routine ho hu hn)
    exact ⟨by rw [hc], by rw [hc]⟩
  · rw [choose_noNotice (take_off ho)]
  · rw [choose_panel] at h
    exact choose_isNotice h
  · obtain ⟨x, u, h⟩ := chooseNotice_eq { s with office := s.office.choose, panel := s.panel.choose }
    rw [choose_eq, h]
    cases l
    · exact ⟨choose_assembly _, choose_gapTimer _, choose_buffer _, choose_inHand _⟩
    · exact ⟨choose_assembly _, choose_gapTimer _, choose_buffer _, choose_inHand _⟩
  · obtain ⟨x, u, h⟩ := chooseNotice_eq { s with office := s.office.choose, panel := s.panel.choose }
    rw [choose_eq, h]

end Sys2Proof.Machine
end

section
/-! PROOFS. Requests read from a kind and a body (R171, 11.4): lengths, numbers high byte first, and the way back from a row's frame. -/

namespace Sys2Proof.Machine

/-! ## Numbers of several bytes -/

theorem byte_toNat_of_lt {n : Nat} (h : n < 256) : (byte n).toNat = n := by
  simp only [byte, BitVec.toNat_ofNat]
  omega

@[simp] theorem byte_toNat (x : Byte) : byte x.toNat = x := by
  apply BitVec.eq_of_toNat_eq
  have := x.isLt
  simp only [byte, BitVec.toNat_ofNat]
  omega

theorem toNat_append_byte {n : Nat} (x : BitVec n) (y : Byte) : (x ++ y).toNat = x.toNat * 256 + y.toNat := by
  rw [BitVec.toNat_append, ← Nat.shiftLeft_add_eq_or_of_lt y.isLt, Nat.shiftLeft_eq]

theorem append2 (a b : Byte) : a ++ b = BitVec.ofNat 16 (nat2 a b) := by
  have := a.isLt
  have := b.isLt
  apply BitVec.eq_of_toNat_eq
  rw [toNat_append_byte, BitVec.toNat_ofNat, nat2]
  omega

theorem append3 (a b c : Byte) : a ++ b ++ c = BitVec.ofNat 24 (nat3 a b c) := by
  have := a.isLt
  have := b.isLt
  have := c.isLt
  apply BitVec.eq_of_toNat_eq
  rw [toNat_append_byte, toNat_append_byte, BitVec.toNat_ofNat, nat3]
  omega

theorem append4 (a b c d : Byte) : a ++ b ++ c ++ d = BitVec.ofNat 32 (nat4 a b c d) := by
  have := a.isLt
  have := b.isLt
  have := c.isLt
  have := d.isLt
  apply BitVec.eq_of_toNat_eq
  rw [toNat_append_byte, toNat_append_byte, toNat_append_byte, BitVec.toNat_ofNat, nat4]
  omega

theorem nat2_bytes (n : BitVec 16) : BitVec.ofNat 16 (nat2 (byte (n.toNat / 256)) (byte n.toNat)) = n := by
  have := n.isLt
  apply BitVec.eq_of_toNat_eq
  simp only [nat2, byte, BitVec.toNat_ofNat]
  omega

theorem nat3_bytes (n : BitVec 24) :
    BitVec.ofNat 24 (nat3 (byte (n.toNat / 65536)) (byte (n.toNat / 256)) (byte n.toNat)) = n := by
  have := n.isLt
  apply BitVec.eq_of_toNat_eq
  simp only [nat3, byte, BitVec.toNat_ofNat]
  omega

theorem nat4_bytes (n : BitVec 32) :
    BitVec.ofNat 32 (nat4 (byte (n.toNat / 16777216)) (byte (n.toNat / 65536)) (byte (n.toNat / 256)) (byte n.toNat)) = n := by
  have := n.isLt
  apply BitVec.eq_of_toNat_eq
  simp only [nat4, byte, BitVec.toNat_ofNat]
  omega

/-! ## Bodies with a count -/

theorem rawSteps?_bytes (rs : List RawStep) : rawSteps? (rs.flatMap RawStep.bytes) = some rs := by
  induction rs with
  | nil => rfl
  | cons r rs ih =>
    rw [List.flatMap_cons, RawStep.bytes]
    simp only [List.cons_append, List.nil_append, rawSteps?, ih, Option.map_some]

/-- Bytes in sixteens are descriptors. -/
theorem rawSteps?_isSome (n : Nat) (bs : List Byte) (h : bs.length = 16 * n) : ∃ rs, rawSteps? bs = some rs := by
  induction n generalizing bs with
  | zero => exact ⟨[], by rw [List.length_eq_zero_iff.1 (show bs.length = 0 by omega)]; rfl⟩
  | succ n ih =>
    match bs, h with
    | _ :: _ :: _ :: _ :: _ :: _ :: _ :: _ :: _ :: _ :: _ :: _ :: _ :: _ :: _ :: _ :: rest, h =>
      obtain ⟨rs, hrs⟩ := ih rest (by simp only [List.length_cons] at h; omega)
      rw [rawSteps?, hrs]
      exact ⟨_, rfl⟩

theorem readRequest_loadVerdict (a : Byte) (xs : List Byte) (h : xs.length ≤ 255) :
    readRequest 0x12 (a :: byte xs.length :: xs) = .request (.loadVerdict a xs) := by
  have hn : xs.length = (byte xs.length).toNat := (byte_toNat_of_lt (by omega)).symm
  show (if xs.length = (byte xs.length).toNat then _ else _) = _
  rw [if_pos hn]

theorem readRequest_pendingClear (a : Byte) (xs : List Byte) (h : xs.length ≤ 255) :
    readRequest 0x3C (a :: byte xs.length :: xs) = .request (.pendingClear a xs) := by
  have hn : xs.length = (byte xs.length).toNat := (byte_toNat_of_lt (by omega)).symm
  show (if xs.length = (byte xs.length).toNat then _ else _) = _
  rw [if_pos hn]

theorem readRequest_admitVisit (a b c d e : Byte) (xs : List Byte) (h : xs.length ≤ 255) :
    readRequest 0x20 (a :: b :: c :: d :: e :: byte xs.length :: xs) = .request (.admitVisit a (BitVec.ofNat 24 (nat3 b c d)) e xs) := by
  have hn : xs.length = (byte xs.length).toNat := (byte_toNat_of_lt (by omega)).symm
  show (if xs.length = (byte xs.length).toNat then _ else _) = _
  rw [if_pos hn]

theorem readRequest_stepWrite (rs : List RawStep) (h : rs.length ≤ 255) :
    readRequest 0x15 (byte rs.length :: rs.flatMap RawStep.bytes) = .request (.stepWrite rs) := by
  have hn : (rs.flatMap RawStep.bytes).length = 16 * (byte rs.length).toNat := by
    rw [byte_toNat_of_lt (by omega), Laws.Framed.steps_length]
  show (if _ = 16 * (byte rs.length).toNat then (match rawSteps? _ with
    | some ss => Reading.request (.stepWrite ss)
    | none => Reading.badLength) else _) = _
  rw [if_pos hn, rawSteps?_bytes]

theorem readRequest_loadCarryover (a : Byte) (v : Vector Byte 16) : readRequest 0x10 (a :: v.toList) = .request (.loadCarryover a v) := by
  have hn : v.toList.toArray.size = 16 := by simp
  show (if h : v.toList.toArray.size = 16 then Reading.request (.loadCarryover a ⟨v.toList.toArray, h⟩) else _) = _
  rw [dif_pos hn]
  simp [Vector.toArray_toList]

/-- Every well-formed request row's body reads as the row's request. -/
theorem readRequest_body {c : Instr} {l : LinkId} {tag : Byte} {r : Request} (hw : c.wf = true) (h : asRequest c = some (l, tag, r)) :
    readRequest r.kind r.body = .request r := by
  cases c <;> simp only [asRequest, Option.some.injEq, Prod.mk.injEq, reduceCtorEq] at h <;> obtain ⟨-, -, rfl⟩ := h
  case linkSetup l t o v m => exact congrArg (fun m => Reading.request (.linkSetup o v m)) (nat2_bytes m)
  case setClock l t c => exact congrArg (fun n => Reading.request (.setClock n)) (nat4_bytes c)
  case setCertBase l t n => exact congrArg (fun n => Reading.request (.setCertBase n)) (nat4_bytes n)
  case orderFill l t b i c g => exact congrArg (fun n => Reading.request (.orderFill b i c n)) (nat2_bytes g)
  case loadCarryover l t r es => exact readRequest_loadCarryover r es
  case loadVerdict l t f os =>
    have := of_decide_eq_true hw
    exact readRequest_loadVerdict f os (by simp only [maxBody] at this; omega)
  case pendingClear l t f ks =>
    have := of_decide_eq_true hw
    exact readRequest_pendingClear f ks (by simp only [maxBody] at this; omega)
  case admitVisit l t b f p ps =>
    have := of_decide_eq_true hw
    have hr := readRequest_admitVisit b (byte (f.toNat / 65536)) (byte (f.toNat / 256)) (byte f.toNat) p ps
      (by simp only [maxBody] at this; omega)
    rw [nat3_bytes] at hr
    exact hr
  case stepWrite l t rs =>
    have := of_decide_eq_true hw
    exact readRequest_stepWrite rs (by simp only [maxBody] at this; omega)
  all_goals rfl

/-! ## Lengths -/

/-- A kind whose bodies of length `n` read as requests, and no others. -/
def ReadsLength (kind : Byte) (body : List Byte) (n : Nat) : Prop :=
  (body.length = n → ∃ r, readRequest kind body = .request r) ∧ (body.length ≠ n → readRequest kind body = .badLength)

theorem readsLength_one {kind : Byte} (h : kind.toNat ∈ [0x01, 0x02, 0x03, 0x11, 0x19, 0x21, 0x22, 0x25, 0x26, 0x27, 0x30, 0x31, 0x32,
    0x38, 0x3B]) (body : List Byte) : ReadsLength kind body 1 := by
  simp only [List.mem_cons, List.not_mem_nil, or_false] at h
  unfold ReadsLength readRequest
  match body with
  | [] => rcases h with h | h | h | h | h | h | h | h | h | h | h | h | h | h | h <;> simp [h]
  | [_] => rcases h with h | h | h | h | h | h | h | h | h | h | h | h | h | h | h <;> simp [h]
  | _ :: _ :: _ => rcases h with h | h | h | h | h | h | h | h | h | h | h | h | h | h | h <;> simp [h]

theorem readsLength_two {kind : Byte} (h : kind.toNat ∈ [0x07, 0x09, 0x13, 0x14, 0x16, 0x29, 0x39]) (body : List Byte) :
    ReadsLength kind body 2 := by
  simp only [List.mem_cons, List.not_mem_nil, or_false] at h
  unfold ReadsLength readRequest
  match body with
  | [] => rcases h with h | h | h | h | h | h | h <;> simp [h]
  | [_] => rcases h with h | h | h | h | h | h | h <;> simp [h]
  | [_, _] => rcases h with h | h | h | h | h | h | h <;> simp [h]
  | _ :: _ :: _ :: _ => rcases h with h | h | h | h | h | h | h <;> simp [h]

theorem readsLength_four {kind : Byte} (h : kind.toNat ∈ [0x04, 0x05, 0x08, 0x18, 0x2A]) (body : List Byte) :
    ReadsLength kind body 4 := by
  simp only [List.mem_cons, List.not_mem_nil, or_false] at h
  unfold ReadsLength readRequest
  match body with
  | [] | [_] | [_, _] | [_, _, _] => rcases h with h | h | h | h | h <;> simp [h]
  | [_, _, _, _] => rcases h with h | h | h | h | h <;> simp [h]
  | _ :: _ :: _ :: _ :: _ :: _ => rcases h with h | h | h | h | h <;> simp [h]

theorem readsLength_five {kind : Byte} (h : kind.toNat ∈ [0x06, 0x28, 0x3A]) (body : List Byte) : ReadsLength kind body 5 := by
  simp only [List.mem_cons, List.not_mem_nil, or_false] at h
  unfold ReadsLength readRequest
  match body with
  | [] | [_] | [_, _] | [_, _, _] | [_, _, _, _] => rcases h with h | h | h <;> simp [h]
  | [_, _, _, _, _] => rcases h with h | h | h <;> simp [h]
  | _ :: _ :: _ :: _ :: _ :: _ :: _ => rcases h with h | h | h <;> simp [h]

theorem readsLength_extend {kind : Byte} (h : kind.toNat = 0x24) (body : List Byte) : ReadsLength kind body 3 := by
  unfold ReadsLength readRequest
  match body with
  | [] | [_] | [_, _] => simp [h]
  | [_, _, _] => simp [h]
  | _ :: _ :: _ :: _ :: _ => simp [h]

theorem readsLength_assign {kind : Byte} (h : kind.toNat = 0x23) (body : List Byte) : ReadsLength kind body 6 := by
  unfold ReadsLength readRequest
  match body with
  | [] | [_] | [_, _] | [_, _, _] | [_, _, _, _] | [_, _, _, _, _] => simp [h]
  | [_, _, _, _, _, _] => simp [h]
  | _ :: _ :: _ :: _ :: _ :: _ :: _ :: _ => simp [h]

theorem readsLength_loadCarryover {kind : Byte} (h : kind.toNat = 0x10) (body : List Byte) : ReadsLength kind body 17 := by
  unfold ReadsLength readRequest
  match body with
  | [] => simp [h]
  | r :: es => by_cases hl : es.length = 16 <;> simp [h, hl]

/-- A kind whose body has a count after one byte, with a byte for each. -/
theorem readsLength_counted {kind : Byte} (h : kind.toNat = 0x12 ∨ kind.toNat = 0x3C) (body : List Byte) :
    ReadsLength kind body (2 + (body.getD 1 0).toNat) := by
  unfold ReadsLength readRequest
  match body with
  | [] => rcases h with h | h <;> simp [h]
  | [_] => rcases h with h | h <;> simp [h]
  | f :: n :: os =>
    have hlen : (f :: n :: os).length = 2 + ((f :: n :: os).getD 1 0).toNat ↔ os.length = n.toNat := by simp; omega
    rw [ne_eq, hlen]
    by_cases hl : os.length = n.toNat
    · rcases h with h | h <;> simp [h, hl]
    · rcases h with h | h <;> simp [h, hl]

theorem readsLength_admitVisit {kind : Byte} (h : kind.toNat = 0x20) (body : List Byte) :
    ReadsLength kind body (6 + (body.getD 5 0).toNat) := by
  unfold ReadsLength readRequest
  match body with
  | [] | [_] | [_, _] | [_, _, _] | [_, _, _, _] | [_, _, _, _, _] => simp [h]
  | a :: b :: c :: d :: e :: n :: os =>
    have hlen : (a :: b :: c :: d :: e :: n :: os).length = 6 + ((a :: b :: c :: d :: e :: n :: os).getD 5 0).toNat ↔
      os.length = n.toNat := by simp; omega
    rw [ne_eq, hlen]
    by_cases hl : os.length = n.toNat <;> simp [h, hl]

theorem readsLength_stepWrite {kind : Byte} (h : kind.toNat = 0x15) (body : List Byte) :
    ReadsLength kind body (1 + 16 * (body.getD 0 0).toNat) := by
  unfold ReadsLength readRequest
  match body with
  | [] => simp [h]
  | n :: rest =>
    have hlen : (n :: rest).length = 1 + 16 * ((n :: rest).getD 0 0).toNat ↔ rest.length = 16 * n.toNat := by simp; omega
    rw [ne_eq, hlen]
    by_cases hl : rest.length = 16 * n.toNat
    · obtain ⟨rs, hrs⟩ := rawSteps?_isSome n.toNat rest hl
      simp [h, hl, hrs]
    · simp [h, hl]

theorem readsLength_bodyLength {kind : Byte} (h : kind.toNat ∈ requestKinds) (body : List Byte) :
    ReadsLength kind body (bodyLength kind.toNat body) := by
  have group : kind.toNat ∈ [0x01, 0x02, 0x03, 0x11, 0x19, 0x21, 0x22, 0x25, 0x26, 0x27, 0x30, 0x31, 0x32, 0x38, 0x3B] ∨
      kind.toNat ∈ [0x07, 0x09, 0x13, 0x14, 0x16, 0x29, 0x39] ∨ kind.toNat ∈ [0x04, 0x05, 0x08, 0x18, 0x2A] ∨
      kind.toNat ∈ [0x06, 0x28, 0x3A] ∨ kind.toNat = 0x24 ∨ kind.toNat = 0x23 ∨ kind.toNat = 0x10 ∨
      (kind.toNat = 0x12 ∨ kind.toNat = 0x3C) ∨ kind.toNat = 0x20 ∨ kind.toNat = 0x15 := by
    simp only [requestKinds, List.mem_cons, List.not_mem_nil, or_false] at h ⊢
    omega
  rcases group with g | g | g | g | g | g | g | g | g | g
  · convert readsLength_one g body
    simp only [List.mem_cons, List.not_mem_nil, or_false] at g
    rcases g with g | g | g | g | g | g | g | g | g | g | g | g | g | g | g <;> rw [g] <;> rfl
  · convert readsLength_two g body
    simp only [List.mem_cons, List.not_mem_nil, or_false] at g
    rcases g with g | g | g | g | g | g | g <;> rw [g] <;> rfl
  · convert readsLength_four g body
    simp only [List.mem_cons, List.not_mem_nil, or_false] at g
    rcases g with g | g | g | g | g <;> rw [g] <;> rfl
  · convert readsLength_five g body
    simp only [List.mem_cons, List.not_mem_nil, or_false] at g
    rcases g with g | g | g <;> rw [g] <;> rfl
  · rw [g]; exact readsLength_extend g body
  · rw [g]; exact readsLength_assign g body
  · rw [g]; exact readsLength_loadCarryover g body
  · have hb : bodyLength kind.toNat body = 2 + (body.getD 1 0).toNat := by rcases g with g | g <;> rw [g] <;> rfl
    rw [hb]
    exact readsLength_counted g body
  · rw [g]; exact readsLength_admitVisit g body
  · rw [g]; exact readsLength_stepWrite g body

theorem readRequest_unknownKind {kind : Byte} (h : kind.toNat ∉ requestKinds) (body : List Byte) : readRequest kind body = .unknownKind := by
  unfold readRequest
  split
  all_goals first | rfl | (next hk => exact absurd (hk ▸ h) (by decide))

theorem readRequest_badLength_iff (kind : Byte) (body : List Byte) :
    readRequest kind body = .badLength ↔ kind.toNat ∈ requestKinds ∧ body.length ≠ bodyLength kind.toNat body := by
  by_cases hk : kind.toNat ∈ requestKinds
  · obtain ⟨hgood, hbad⟩ := readsLength_bodyLength hk body
    refine ⟨fun h => ⟨hk, fun hl => ?_⟩, fun h => hbad h.2⟩
    obtain ⟨r, hr⟩ := hgood hl
    rw [hr] at h
    cases h
  · rw [readRequest_unknownKind hk]
    simp [hk]

theorem readRequest_unknownKind_iff (kind : Byte) (body : List Byte) : readRequest kind body = .unknownKind ↔ kind.toNat ∉ requestKinds := by
  refine ⟨fun h hk => ?_, fun hk => readRequest_unknownKind hk body⟩
  obtain ⟨hgood, hbad⟩ := readsLength_bodyLength hk body
  by_cases hl : body.length = bodyLength kind.toNat body
  · obtain ⟨r, hr⟩ := hgood hl
    rw [hr] at h
    cases h
  · rw [hbad hl] at h
    cases h

/-! ## The checks on a frame -/

/-- A link's receiver hunting, with the rest of the link as it was. -/
theorem linkFree_hunting {s : State} {l : LinkId} (h : s.LinkFree l) : (s.setLink l (s.link l).hunt).LinkFree l := by
  obtain ⟨hp, hb, hh⟩ := h
  cases l <;> exact ⟨hp, hb, hh⟩

/-- A frame refused by the link unit on a free link leaves everything but the reply. -/
theorem arrive_refused {s : State} {l : LinkId} {f : Frame} {x : Reading} {e : Result} (hf : s.LinkFree l)
    (hx : s.serve l f.kind x = (s, .refuse e)) : s.arrive l f x = s.giveReply l f.kind f.tag (.refuse e) := by
  rw [arrive_free s l f x hf.2.1 hf.2.2, State.takeFrame, hx]

/-- Settles O4: kind, permission and length are checked in that order, before any owner sees the request. -/
theorem theLinkUnitChecksKindPermissionAndLength : Obligations.TheLinkUnitChecksKindPermissionAndLength := by
  refine ⟨fun l tag kind body s hf _ hk => ?_, fun c tag r s hc ho hf => ?_, fun r => ?_, fun l len high low tag kind body s hf ha hcrc hk hl => ?_,
    readRequest_badLength_iff, readRequest_unknownKind_iff⟩
  · refine exec_live (f := fun t => t.arrive l _ (readRequest kind body)) rfl hf.1 ?_
    rw [readRequest_unknownKind hk]
    exact arrive_refused hf rfl
  · refine exec_free_notPermitted hc s hf ?_
    simp [permitted_eq, ho]
  · cases r <;> simp [officeOnly, officeOnlyKinds, Request.kind]
  · have hlt : kind.toNat < 0x40 := by
      simp only [requestKinds, List.mem_cons, List.not_mem_nil, or_false] at hk
      omega
    rw [exec_frameByte hf.1 ((linkByte_judged ha).trans (judgeFrame_arrives hcrc hlt)),
      (readRequest_badLength_iff kind body).2 ⟨hk, hl⟩, arrive_refused (linkFree_hunting hf) (serve_badLength l kind _)]
    rfl

/-- Settles O9: each row's body is laid out as its kind's reader takes it apart, and each field's reader reads its own codes. -/
theorem requestsAndTheirCodesAreRead : Obligations.RequestsAndTheirCodesAreRead := by
  refine ⟨fun c l tag r hw h => readRequest_body hw h, fun a b c d e f => ?_, fun a b c d e xs v rs => ?_, fun x => ?_⟩
  · rw [append4 a b c d, append2 c d, append2 d e]
    exact ⟨rfl, rfl, rfl, rfl, rfl, rfl, rfl, rfl, rfl, rfl, rfl, rfl, rfl, rfl, rfl, rfl, rfl, rfl, rfl, rfl, rfl, rfl, rfl, rfl, rfl, rfl,
      rfl, rfl, rfl, rfl, rfl, rfl⟩
  · refine ⟨readRequest_loadCarryover a v, fun h => ⟨readRequest_loadVerdict a xs h, ?_, readRequest_pendingClear a xs h⟩,
      fun h => readRequest_stepWrite rs h⟩
    rw [append3]
    exact readRequest_admitVisit a b c d e xs h
  · refine ⟨bool?_eq_some_iff x, priority?_eq_some_iff x, bay?_eq_some_iff x, scope?_eq_some_iff x, rfl, cargo?_eq_some_iff x,
      class?_eq_some_iff x, ring?_eq_some_iff x, sector?_eq_some_iff x, mark?_eq_some_iff x, fun o => ?_, fun o => ?_,
      fun last => ⟨chain?_follow_iff x last, chain?_bounded_iff x last⟩, fun u => ?_, index?_eq_some_iff x, fun m => ?_, fun u => ?_,
      fun p => ?_, fun g => ?_, ?_, carryEntry?_required_iff x, ?_, ?_, judgement?_pass_iff x, fun k => ?_⟩
    · rw [markOp?_eq_some_iff]; cases o <;> rfl
    · rw [scanOrder?_eq_some_iff]; cases o <;> rfl
    · rw [washUtil?_eq_some_iff]; cases u <;> rfl
    · rw [mode?_eq_some_iff]; cases m <;> rfl
    · rw [util?_eq_some_iff]; cases u <;> rfl
    · rw [prior?_eq_some_iff]; cases p <;> rfl
    · rw [cargoOrNone?_eq_some_iff]; cases g <;> rfl
    · rw [carryEntry?_forbidden_iff, toNat_eq_iff]; rfl
    · rw [judgement?_rewash_iff, toNat_eq_iff]; rfl
    · rw [judgement?_refer_iff, toNat_eq_iff]; rfl
    · rw [eventKind?_eq_some_iff]; cases k <;> rfl

end Sys2Proof.Machine
end

section
/-! PROOFS. Frames on the wire: their layouts (R168, R172, 11.6, 11.7), and their bytes received one after another. -/

namespace Sys2Proof.Machine

/-! ## Layouts -/

/-- The four condition bits, lowest first, and nothing above them. -/
theorem conditionBits : ∀ a b c d : Bool, ∀ x : Byte,
    x = byte ((if a then 1 else 0) + (if b then 2 else 0) + (if c then 4 else 0) + (if d then 8 else 0)) →
    x.getLsbD 0 = a ∧ x.getLsbD 1 = b ∧ x.getLsbD 2 = c ∧ x.getLsbD 3 = d ∧ x.toNat < 16 := by
  intro a b c d x hx
  subst hx
  revert a b c d
  decide

theorem attention_eq (u : NoticeUnit) : u.attention = !(u.urgent.isEmpty && u.routine.isEmpty) := by
  rw [NoticeUnit.attention, Bool.not_and]

theorem crcBytes_append (bs : List Byte) : (crcBytes bs).1 ++ (crcBytes bs).2 = crc16 bs :=
  ((crcBytes_eq_iff bs _ _).1 rfl).symm

/-- One bit of the check's register, by its highest bit. -/
theorem crcBit_eq : crcBit = fun c : BitVec 16 => if c.getLsbD 15 = true then (c <<< 1) ^^^ 0x1021 else c <<< 1 := by
  funext c
  simp [crcBit, BitVec.getMsbD_eq_getLsbD]

theorem crc16_snoc (bs : List Byte) (b : Byte) : crc16 (bs ++ [b]) = crcBit^[8] (crc16 bs ^^^ (b ++ (0 : Byte))) := by
  have hb : b.setWidth 16 <<< 8 = b ++ (0 : Byte) := by
    apply BitVec.eq_of_toNat_eq
    have := b.isLt
    simp only [BitVec.toNat_shiftLeft, BitVec.toNat_setWidth, toNat_append_byte, Nat.shiftLeft_eq, show (0 : Byte).toNat = 0 from rfl]
    omega
  rw [crc16, List.foldl_append, ← crc16, List.foldl_cons, List.foldl_nil, crcByte, hb]
  rfl

/-- An event's fields, at most eight bytes, stand first in its snapshot. -/
theorem bytes_eq_fields (e : Event) : e.fields.length ≤ 8 ∧ e.bytes = e.fields ++ List.replicate (8 - e.fields.length) 0 := by
  have hl : e.fields.length ≤ 8 := by cases e <;> simp [Event.fields, bytes2, bytes4]
  refine ⟨hl, ?_⟩
  rw [Event.bytes, List.take_append, List.take_of_length_le hl, List.take_replicate]
  congr 2
  omega

theorem orAbsent_map {α : Type} (f : α → Nat) (x : Option α) : orAbsent (x.map f) = (x.map fun a => byte (f a)).getD 0xFF := by
  cases x <;> rfl

/-- An orders message's bytes after the start sum to 0. -/
theorem foldl_check (bs : List Byte) (x : Byte) : (bs ++ [0 - bs.foldl (· + ·) x]).foldl (· + ·) x = 0 := by
  rw [List.foldl_append]
  simp

/-- Settles O5: each frame's layout is its definition read off, with the check and the sum shown. -/
theorem sentFramesHaveTheirLayout : Obligations.SentFramesHaveTheirLayout := by
  refine ⟨fun s kind tag r => ⟨conditionByte s r, rfl, ?_⟩, fun f r n => ⟨rfl, rfl, rfl⟩, fun f => ⟨_, _, crcBytes_append _, ?_⟩,
    ⟨rfl, fun bs b => ?_⟩, fun n => ⟨rfl, rfl, rfl, rfl⟩, fun e => ⟨e.fields, (bytes_eq_fields e).2, (bytes_eq_fields e).1, ?_⟩,
    fun o => ⟨0 - (0x11 :: [byte o.lance.code, orAbsent (o.supply.map WashUtil.code), flag o.drain, flag o.fill, flag o.probe]).foldl
      (· + ·) 0, ?_, foldl_check _ _⟩, rfl, rfl, rfl, rfl, rfl, rfl, rfl, fun _ => rfl, rfl, rfl, rfl, rfl, rfl, rfl⟩
  · rw [← attention_eq]
    exact conditionBits _ _ _ _ _ rfl
  · rw [Frame.wire, Frame.content, Frame.lengthByte]
    simp
  · rw [crc16_snoc, crcBit_eq]
  · cases e <;> first | rfl | (simp [Event.fields, orAbsent_map])
  · obtain ⟨lance, supply, drain, fill, probe⟩ := o
    cases lance <;> cases supply <;> rfl

end Sys2Proof.Machine
end

section
/-! PROOFS. A request's frame received byte by byte (R168): the receiver passes through its states, and the last byte brings the frame. -/

namespace Sys2Proof.Machine

/-! ## A machine whose transmitters have nothing to choose -/

theorem choose_eq_self_iff (x : Link) : x.choose = x ↔ x.sending ≠ none ∨ (x.reply = none ∧ x.reject = none) := by
  refine ⟨fun h => ?_, fun h => ?_⟩
  · by_cases hs : x.sending = none
    · exact .inr (choose_free (by rw [h]; exact hs)).2
    · exact .inl hs
  · rcases h with hs | ⟨hr, hj⟩
    · exact choose_sending hs
    · by_cases hs : x.sending = none
      · exact choose_nothing hs hr hj
      · exact choose_sending hs

/-- Nothing is left to choose: each link's own choice is made, and the office sends or no notice can be taken. -/
theorem choose_self_iff (s : State) :
    s.choose = s ↔ s.office.choose = s.office ∧ s.panel.choose = s.panel ∧ (s.office.sending ≠ none ∨ s.notices.take = none) := by
  refine ⟨fun h => ?_, fun ⟨ho, hp, hn⟩ => ?_⟩
  · have hp : s.panel.choose = s.panel := by rw [← choose_panel, h]
    have ho : s.office.choose = s.office := by
      by_cases hc : s.office.choose.sending = none
      · obtain ⟨hs, hr, hj⟩ := choose_free hc
        exact choose_nothing hs hr hj
      · rw [choose_office_busy hc] at h
        exact congrArg State.office h
    refine ⟨ho, hp, ?_⟩
    by_cases hs : s.office.sending = none
    · cases ht : s.notices.take with
      | none => exact .inr rfl
      | some q =>
        obtain ⟨hr, hj⟩ := ((choose_eq_self_iff _).1 ho).resolve_left (fun h => h hs)
        have hc := choose_notice hs hr hj (n := q.1) (u := q.2) ht
        rw [h] at hc
        have hsend := congrArg (fun t : State => t.office.sending) hc
        rw [hs] at hsend
        cases hsend
    · exact .inl hs
  · rw [choose_eq, ho, hp]
    rcases hn with hs | ht
    · exact chooseNotice_sending (s := s) hs
    · exact chooseNotice_none (s := s) ht

/-- What a transmitter chooses from stands in three fields of a link and in the notice unit. -/
theorem choose_self_of_same {s t : State} (h : s.choose = s) (hn : t.notices = s.notices)
    (ho : t.office.sending = s.office.sending ∧ t.office.reply = s.office.reply ∧ t.office.reject = s.office.reject)
    (hp : t.panel.sending = s.panel.sending ∧ t.panel.reply = s.panel.reply ∧ t.panel.reject = s.panel.reject) : t.choose = t := by
  obtain ⟨ho1, ho2, ho3⟩ := ho
  obtain ⟨hp1, hp2, hp3⟩ := hp
  rw [choose_self_iff, choose_eq_self_iff, choose_eq_self_iff] at h ⊢
  rw [hn, ho1, ho2, ho3, hp1, hp2, hp3]
  exact h

/-! ## Runs -/

/-- The host's run of the machine. -/
def State.run (n : Nat) (s : State) : Host.Outcome State Fault Refusal := Host.Core.run Sys2Proof.core n s

/-- A run takes the command in front and goes on from the state it leaves. -/
theorem run_command {s t : State} {c : Instr} {p : List Instr} (n : Nat) (h : exec c { s with pending := p } = .next t) :
    State.run (n + 1) { s with pending := c :: p } = State.run n t := by
  have hs : Sys2Proof.core.step { s with pending := c :: p } = .next t := h
  simp only [State.run, Host.Core.run, hs]
  rfl

/-! ## The receiver's states -/

/-- The machine with a link's receiver in a state, and commands waiting. -/
def State.receiving (s : State) (l : LinkId) (a : Assembly) (g : Bool) (p : List Instr) : State :=
  { s.setLink l { s.link l with assembly := a, gapTimer := g } with pending := p }

/-- The machine itself, its receiver hunting. -/
theorem receiving_hunting {s : State} {l : LinkId} (ha : (s.link l).assembly = .hunting) (hg : (s.link l).gapTimer = false)
    (p : List Instr) : s.receiving l .hunting false p = { s with pending := p } := by
  have hx : ({ s.link l with assembly := .hunting, gapTimer := false } : Link) = s.link l := by rw [← ha, ← hg]
  rw [State.receiving, hx, setLink_link]

theorem link_receiving (s : State) (l : LinkId) (a : Assembly) (g : Bool) (p : List Instr) :
    (s.receiving l a g p).link l = { s.link l with assembly := a, gapTimer := g } := by
  cases l <;> rfl

theorem setLink_receiving (s : State) (l : LinkId) (a a' : Assembly) (g g' : Bool) (p : List Instr) :
    (s.receiving l a g p).setLink l { (s.receiving l a g p).link l with assembly := a', gapTimer := g' } = s.receiving l a' g' p := by
  cases l <;> rfl

theorem choose_receiving {s : State} (h : s.choose = s) (l : LinkId) (a : Assembly) (g : Bool) (p : List Instr) :
    (s.receiving l a g p).choose = s.receiving l a g p := by
  cases l <;> exact choose_self_of_same h rfl ⟨rfl, rfl, rfl⟩ ⟨rfl, rfl, rfl⟩

section
variable {s : State} (hl : s.pins.resetHeld = false) (hs : s.choose = s) (l : LinkId)
include hl hs

/-- A byte that only moves the receiver on. -/
theorem run_byte {a a' : Assembly} {g : Bool} {b : Byte} {p : List Instr} (n : Nat)
    (h : (s.receiving l a g p).linkByte l b = s.receiving l a' true p) :
    State.run (n + 1) (s.receiving l a g (.frameByteReceived l b :: p)) =
      State.run n (s.receiving l a' true p) := by
  have hr : (s.receiving l a g p).pins.resetHeld = false := by cases l <;> exact hl
  have hx := exec_frameByte hr h
  rw [choose_receiving hs] at hx
  exact run_command (s := s.receiving l a g p) n hx

/-- Content bytes, the last of which completes the length, bring the receiver to the check. -/
theorem run_content (len : Byte) (got bs : List Byte) (n : Nat) (p : List Instr) (hb : bs ≠ []) (hn : got.length + bs.length = len.toNat) :
    State.run (bs.length + n) (s.receiving l (.content len got) true (bs.map (Instr.frameByteReceived l) ++ p)) =
      State.run n (s.receiving l (.check len (got ++ bs) []) true p) := by
  induction bs generalizing got with
  | nil => exact absurd rfl hb
  | cons b bs ih =>
    have ha : ∀ q, ((s.receiving l (.content len got) true q).link l).assembly = .content len got := fun q => by rw [link_receiving]
    rw [List.length_cons] at hn
    rw [List.length_cons, List.map_cons, List.cons_append, Nat.add_right_comm]
    cases bs with
    | nil =>
      simp only [List.length_nil, Nat.zero_add, List.map_nil, List.nil_append]
      exact run_byte hl hs l n ((linkByte_lastContent (ha _) (by simpa using hn)).trans (setLink_receiving ..))
    | cons c bs =>
      have hlt : got.length + 1 < len.toNat := by rw [List.length_cons] at hn; omega
      rw [run_byte hl hs l _ ((linkByte_content (ha _) hlt).trans (setLink_receiving ..)),
        ih (got ++ [b]) (by simp) (by simp only [List.length_append, List.length_cons, List.length_nil] at hn ⊢; omega)]
      simp

/-- A whole frame's bytes: the receiver is back where it hunts, and the frame arrives. -/
theorem run_frame (ha : (s.link l).assembly = .hunting) (hg : (s.link l).gapTimer = false) (f : Frame) (hk : f.kind.toNat < 0x40)
    (h1 : 1 ≤ f.body.length) (h248 : f.body.length ≤ 248) :
    State.run f.wire.length { s with pending := f.wire.map (Instr.frameByteReceived l) ++ s.pending } =
      .next (s.arrive l f (readRequest f.kind f.body)).choose := by
  have hlen : f.lengthByte.toNat = f.body.length + 2 := byte_toNat_of_lt (by omega)
  have asm : ∀ a g q, ((s.receiving l a g q).link l).assembly = a := fun a g q => by rw [link_receiving]
  obtain ⟨high, low, hc⟩ : ∃ high low, crcBytes (f.lengthByte :: f.content) = (high, low) := ⟨_, _, rfl⟩
  have hcrc : crc16 (f.lengthByte :: f.kind :: f.tag :: f.body) = high ++ low := (crcBytes_eq_iff _ _ _).1 hc
  have hw : f.wire = 0x5E :: f.lengthByte :: (f.content ++ [high, low]) := by
    rw [Frame.wire]
    simp [hc]
  have hn : f.wire.length = (f.content.length + (0 + 1 + 1)) + 1 + 1 := by rw [hw]; simp
  rw [hn, hw, ← receiving_hunting ha hg]
  simp only [List.map_cons, List.map_append, List.map_nil, List.cons_append, List.append_assoc, List.nil_append]
  rw [run_byte hl hs l _ ((linkByte_start (asm _ _ _) rfl).trans (setLink_receiving ..)),
    run_byte hl hs l _ ((linkByte_length (asm _ _ _) (by omega) (by omega)).trans (setLink_receiving ..)),
    run_content hl hs l _ [] f.content _ _ (by simp [Frame.content]) (by simp [Frame.content, hlen]), List.nil_append,
    run_byte hl hs l _ ((linkByte_firstCheck (asm _ _ _)).trans (setLink_receiving ..))]
  have hr : (s.receiving l (.check f.lengthByte f.content [high]) true s.pending).pins.resetHeld = false := by cases l <;> exact hl
  have hx := exec_frameByte (l := l) (b := low) hr ((linkByte_judged (asm _ _ _)).trans (judgeFrame_arrives hcrc hk))
  have hhunt : (s.receiving l (.check f.lengthByte f.content [high]) true s.pending).setLink l
      ((s.receiving l (.check f.lengthByte f.content [high]) true s.pending).link l).hunt = s := by
    rw [Link.hunt, setLink_receiving, receiving_hunting ha hg]
  rw [hhunt] at hx
  exact run_command (s := s.receiving l _ true s.pending) 0 hx

end

/-- A well-formed row's body is 1 to 248 bytes long (R168). -/
theorem body_length {c : Instr} {l : LinkId} {tag : Byte} {r : Request} (hw : c.wf = true) (h : asRequest c = some (l, tag, r)) :
    1 ≤ r.body.length ∧ r.body.length ≤ 248 := by
  cases c <;> simp only [asRequest, Option.some.injEq, Prod.mk.injEq, reduceCtorEq] at h <;> obtain ⟨-, -, rfl⟩ := h
  case loadCarryover l t r es => exact (Laws.Framed.loadCarryover l t r es hw l t _ rfl).2
  case loadVerdict l t f os => exact (Laws.Framed.loadVerdict l t f os hw l t _ rfl).2
  case stepWrite l t rs => exact (Laws.Framed.stepWrite l t rs hw l t _ rfl).2
  case admitVisit l t b f p ps => exact (Laws.Framed.admitVisit l t b f p ps hw l t _ rfl).2
  case pendingClear l t f ks => exact (Laws.Framed.pendingClear l t f ks hw l t _ rfl).2
  all_goals exact ⟨Nat.le_of_ble_eq_true rfl, Nat.le_of_ble_eq_true rfl⟩

/-- Settles O8: the run of the frame's bytes ends in the frame's arrival, which is what the row is. -/
theorem receivedFrameBytesDoWhatTheRowDoes : Obligations.ReceivedFrameBytesDoWhatTheRowDoes := by
  intro c l tag r s hw hc hl ha hg hs
  obtain ⟨h1, h248⟩ := body_length hw hc
  refine ⟨_, exec_asRequest hc s, ?_⟩
  have hrun := run_frame hl hs l ha hg (r.frame tag) (Laws.Framed.kind_small r) h1 h248
  rw [show readRequest (r.frame tag).kind (r.frame tag).body = .request r from readRequest_body hw hc] at hrun
  rw [State.request, live_released _ _ hl]
  exact hrun

end Sys2Proof.Machine
end

section
/-! PROOFS. The bay ports (R186): a node's message received byte by byte, the orders of each lane state, and when they go out. -/

namespace Sys2Proof.Machine

/-! ## The receiver -/

theorem payloadLength?_eq_some_iff (type : Byte) (n : Nat) :
    payloadLength? type = some n ↔ (type.toNat, n) ∈ [(1, 3), (2, 1), (3, 0), (4, 0), (5, 0), (6, 1)] := by
  simp only [List.mem_cons, Prod.mk.injEq, List.not_mem_nil, or_false]
  unfold payloadLength?
  split
  case h_7 => simp_all
  all_goals simp only [Option.some.injEq]; omega

theorem payloadLength?_eq_none {type : Byte} (h : type.toNat = 0 ∨ 6 < type.toNat) : payloadLength? type = none := by
  rw [Option.eq_none_iff_forall_ne_some]
  intro n hn
  rw [payloadLength?_eq_some_iff] at hn
  simp only [List.mem_cons, Prod.mk.injEq, List.not_mem_nil, or_false] at hn
  omega

@[simp] theorem port_setPartway (s : State) (b : Bay) (p : Option (List Byte)) :
    (s.setPartway b p).port b = { s.port b with partway := p } := by
  simp [State.setPartway, State.port]

@[simp] theorem setPartway_setPartway (s : State) (b : Bay) (p q : Option (List Byte)) :
    (s.setPartway b p).setPartway b q = s.setPartway b q := by
  simp [State.setPartway, State.port]

theorem setPartway_self {s : State} {b : Bay} {p : Option (List Byte)} (h : (s.port b).partway = p) : s.setPartway b p = s := by
  subst h
  have hp : ({ s.port b with partway := (s.port b).partway } : Port) = s.ports[b] := rfl
  rw [State.setPartway, hp]
  simp

theorem portByte_hunting {s : State} {b : Bay} {x : Byte} (h : (s.port b).partway = none) (hx : x ≠ 0x7A) : s.portByte b x = s := by
  simp only [State.portByte, h, if_neg hx]

theorem portByte_start {s : State} {b : Bay} {x : Byte} (h : (s.port b).partway = none) (hx : x = 0x7A) :
    s.portByte b x = s.setPartway b (some []) := by
  simp only [State.portByte, h, if_pos hx]

theorem portByte_type {s : State} {b : Bay} {x : Byte} {n : Nat} (h : (s.port b).partway = some []) (hx : payloadLength? x = some n) :
    s.portByte b x = s.setPartway b (some [x]) := by
  simp only [State.portByte, h, hx, Option.isSome_some, if_true]

theorem portByte_badType {s : State} {b : Bay} {x : Byte} (h : (s.port b).partway = some []) (hx : payloadLength? x = none) :
    s.portByte b x = s.setPartway b none := by
  simp only [State.portByte, h, hx, Option.isSome_none, Bool.false_eq_true, if_false]

theorem portByte_payload {s : State} {b : Bay} {x type : Byte} {n : Nat} {payload : List Byte}
    (h : (s.port b).partway = some (type :: payload)) (hn : payloadLength? type = some n) (hlt : payload.length < n) :
    s.portByte b x = s.setPartway b (some (type :: (payload ++ [x]))) := by
  simp only [State.portByte, h, hn, Option.getD_some, if_pos hlt]

theorem portByte_badCheck {s : State} {b : Bay} {x type : Byte} {payload : List Byte}
    (h : (s.port b).partway = some (type :: payload)) (hn : payloadLength? type = some payload.length)
    (hx : (type :: (payload ++ [x])).foldl (· + ·) 0 ≠ 0) : s.portByte b x = s.setPartway b none := by
  have hsum : sumsToZero (type :: (payload ++ [x])) = false := by simpa [sumsToZero] using hx
  simp only [State.portByte, h, hn, Option.getD_some, Nat.lt_irrefl, if_false, hsum, Bool.false_eq_true]

theorem portByte_goodCheck {s : State} {b : Bay} {x type : Byte} {payload : List Byte}
    (h : (s.port b).partway = some (type :: payload)) (hn : payloadLength? type = some payload.length)
    (hx : (type :: (payload ++ [x])).foldl (· + ·) 0 = 0) :
    s.portByte b x = (s.setPartway b none).takeMessage? b (portMessage? type payload) := by
  have hsum : sumsToZero (type :: (payload ++ [x])) = true := by simpa [sumsToZero] using hx
  simp only [State.portByte, h, hn, Option.getD_some, Nat.lt_irrefl, if_false, hsum, if_true]

theorem exec_portByte {b : Bay} {x : Byte} {s t : State} (hl : s.pins.resetHeld = false) (h : s.portByte b x = t) :
    exec (.portByteReceived b x) s = .next t.choose := exec_live (f := fun t => t.portByte b x) rfl hl h

/-! ## A message's bytes one after another -/

/-- The machine with a port partway through a message, and commands waiting. -/
def State.portWaiting (s : State) (b : Bay) (q : Option (List Byte)) (p : List Instr) : State := { s.setPartway b q with pending := p }

theorem port_portWaiting (s : State) (b : Bay) (q : Option (List Byte)) (p : List Instr) :
    ((s.portWaiting b q p).port b).partway = q := congrArg Port.partway (port_setPartway s b q)

theorem setPartway_portWaiting (s : State) (b : Bay) (q q' : Option (List Byte)) (p : List Instr) :
    (s.portWaiting b q p).setPartway b q' = s.portWaiting b q' p :=
  congrArg (fun t : State => { t with pending := p }) (setPartway_setPartway s b q q')

section
variable {s : State} (hl : s.pins.resetHeld = false) (hs : s.choose = s) (b : Bay)
include hl hs

/-- A byte that only takes the port further into the message. -/
theorem run_portByte {q q' : Option (List Byte)} {x : Byte} {p : List Instr} (n : Nat)
    (h : (s.portWaiting b q p).portByte b x = s.portWaiting b q' p) :
    State.run (n + 1) (s.portWaiting b q (.portByteReceived b x :: p)) = State.run n (s.portWaiting b q' p) := by
  have hx := exec_portByte (s := s.portWaiting b q p) hl h
  rw [choose_self_of_same (t := s.portWaiting b q' p) hs rfl ⟨rfl, rfl, rfl⟩ ⟨rfl, rfl, rfl⟩] at hx
  exact run_command (s := s.portWaiting b q p) n hx

/-- The payload's bytes. -/
theorem run_payload {type : Byte} {len : Nat} (hn : payloadLength? type = some len) (got bs : List Byte) (n : Nat) (p : List Instr)
    (hlen : got.length + bs.length ≤ len) :
    State.run (bs.length + n) (s.portWaiting b (some (type :: got)) (bs.map (Instr.portByteReceived b) ++ p)) =
      State.run n (s.portWaiting b (some (type :: (got ++ bs))) p) := by
  induction bs generalizing got with
  | nil => simp
  | cons x bs ih =>
    rw [List.length_cons] at hlen
    rw [List.length_cons, List.map_cons, List.cons_append, Nat.add_right_comm,
      run_portByte hl hs b _ ((portByte_payload (port_portWaiting ..) hn (by omega)).trans (setPartway_portWaiting ..)),
      ih (got ++ [x]) (by simp only [List.length_append, List.length_cons, List.length_nil]; omega), List.append_assoc]
    rfl

/-- A whole message's bytes: the port hunts again, and the lane takes the message. -/
theorem run_message (hp : (s.port b).partway = none) {type : Byte} {payload : List Byte}
    (hn : payloadLength? type = some payload.length) :
    State.run (portWire type payload).length { s with pending := (portWire type payload).map (Instr.portByteReceived b) ++ s.pending } =
      .next (s.takeMessage? b (portMessage? type payload)).choose := by
  obtain ⟨check, hcheck⟩ : ∃ check, check = 0 - (type :: payload).foldl (· + ·) (0 : Byte) := ⟨_, rfl⟩
  have hw : portWire type payload = 0x7A :: type :: (payload ++ [check]) := by simp [portWire, hcheck]
  have hsum : (type :: (payload ++ [check])).foldl (· + ·) 0 = 0 := by rw [hcheck]; exact foldl_check (type :: payload) 0
  have hlen : (portWire type payload).length = (payload.length + 1) + 1 + 1 := by rw [hw]; simp
  have hself : ∀ p, ({ s with pending := p } : State) = s.portWaiting b none p := fun p => by rw [State.portWaiting, setPartway_self hp]
  rw [hlen, hw, hself]
  simp only [List.map_cons, List.map_append, List.map_nil, List.cons_append, List.append_assoc, List.nil_append]
  rw [run_portByte hl hs b _ ((portByte_start (port_portWaiting ..) rfl).trans (setPartway_portWaiting ..)),
    run_portByte hl hs b _ ((portByte_type (port_portWaiting ..) hn).trans (setPartway_portWaiting ..)),
    run_payload hl hs b hn [] payload 1 _ (by simp), List.nil_append]
  have hx := exec_portByte (s := s.portWaiting b (some (type :: payload)) s.pending) hl (portByte_goodCheck (port_portWaiting ..) hn hsum)
  rw [setPartway_portWaiting, ← hself] at hx
  exact run_command (s := s.portWaiting b (some (type :: payload)) s.pending) 0 hx

end

/-- A message row is its message handed to the lane. -/
theorem exec_nodeMessage {c : Instr} {b : Bay} {type : Byte} {payload : List Byte} (h : asNodeMessage c = some (b, type, payload))
    (s : State) : exec c s = .next (s.live fun t => t.takeMessage? b (portMessage? type payload)) ∧
      payloadLength? type = some payload.length := by
  cases c <;> simp only [asNodeMessage, Option.some.injEq, Prod.mk.injEq, reduceCtorEq] at h <;> obtain ⟨rfl, rfl, rfl⟩ := h <;>
    exact ⟨rfl, rfl⟩

/-! ## The orders -/

theorem ports_setLane_same {s : State} {b : Bay} {m : Lane} (h : ordersOf (s.entry m.index) m = (s.lane b).orders) :
    (s.setLane b m).ports = s.ports := by
  simp only [State.setLane, if_pos h]

theorem ports_setLane_change {s : State} {b : Bay} {m : Lane} (h : ordersOf (s.entry m.index) m ≠ (s.lane b).orders) :
    (s.setLane b m).ports = s.ports.set b (if (s.port b).sending = none
      then { s.port b with sending := some (ordersOf (s.entry m.index) m) } else { s.port b with due := true }) := by
  simp only [State.setLane, if_neg h, Port.change]
  cases (s.port b).sending <;> rfl

theorem ordersSent_idle {s : State} {b : Bay} (h : (s.port b).sending = none) : s.ordersSent b = s := by
  simp only [State.ordersSent, h]

theorem ordersSent_due {s : State} {b : Bay} (h : (s.port b).sending ≠ none) (hd : (s.port b).due = true) :
    s.ordersSent b = { s with ports := s.ports.set b { s.port b with sending := some (s.lane b).orders, due := false } } := by
  obtain ⟨o, ho⟩ := Option.ne_none_iff_exists'.1 h
  simp only [State.ordersSent, ho, hd, if_true]

theorem ordersSent_done {s : State} {b : Bay} (h : (s.port b).sending ≠ none) (hd : (s.port b).due = false) :
    s.ordersSent b = { s with ports := s.ports.set b { s.port b with sending := none } } := by
  obtain ⟨o, ho⟩ := Option.ne_none_iff_exists'.1 h
  simp only [State.ordersSent, ho, hd, Bool.false_eq_true, if_false]

/-- Settles O54: the ports' receiver by what stands partly received, and the orders by the lane state. -/
theorem bayPortsTakeAndSendWholeMessages : Obligations.BayPortsTakeAndSendWholeMessages := by
  refine ⟨fun c b type payload s hc hl hp hs => ?_, payloadLength?_eq_some_iff, fun b x s hl => ⟨fun h hx => exec_portByte hl (portByte_hunting h hx),
    fun h hx => exec_portByte hl (portByte_start h hx), fun h hx => exec_portByte hl (portByte_badType h (payloadLength?_eq_none hx)),
    fun _ _ h hn hx => exec_portByte hl (portByte_badCheck h hn hx), exec_live (f := fun t => t.portTimeout b) rfl hl rfl,
    fun h => exec_live (f := fun t => t.ordersSent b) rfl hl (ordersSent_idle h),
    fun h hd => exec_live (f := fun t => t.ordersSent b) rfl hl (ordersSent_done h hd),
    fun h hd => exec_live (f := fun t => t.ordersSent b) rfl hl (ordersSent_due h hd)⟩,
    fun b m s => ⟨lane_setLane s b m, rfl, ports_setLane_same, ports_setLane_change⟩, fun d m => ?_⟩
  · obtain ⟨hx, hn⟩ := exec_nodeMessage hc s
    refine ⟨_, hx, ?_⟩
    rw [live_released _ _ hl]
    exact run_message hl hs b hp hn
  · refine ⟨fun h => ?_, fun k h hk => ?_, fun h => ?_, fun u h hu => ?_, fun h hu => ?_, fun h => ?_, fun h => ?_, fun h => ?_⟩
    · simp only [ordersOf, h]
    · simp only [ordersOf, h, hk]
    · rcases h with h | h | h <;> simp only [ordersOf, h]
    · simp only [ordersOf, h, hu]
    · simp only [ordersOf, h, hu]
    · rcases h with h | h <;> simp only [ordersOf, h]
    · simp only [ordersOf, h]
    · simp only [ordersOf, h]

end Sys2Proof.Machine
end

section
/-! PROOFS. The step store (R42 to R48): descriptors judged and laid out, written in order at the pointer, and read round the store. -/

namespace Sys2Proof.Machine

/-! ## Fields of a descriptor -/

theorem minTemp?_eq_some_iff (p : Bool) (x : Byte) (t : Option Nat) :
    minTemp? p x = some t ↔ ¬ (p = true ∧ 99 < x.toNat) ∧ t = if p then some x.toNat else none := by
  unfold minTemp?
  cases p
  · simp [eq_comm]
  · by_cases h : x.toNat ≤ 99
    · have : ¬ 99 < x.toNat := by omega
      simp [h, eq_comm]
    · simp [h]

theorem stallField?_eq_some_iff (p : Bool) (x : Byte) (t : Option Nat) :
    stallField? p x = some t ↔ ¬ (p = true ∧ x.toNat = 0) ∧ t = if p then some x.toNat else none := by
  unfold stallField?
  cases p
  · simp [eq_comm]
  · by_cases h : 1 ≤ x.toNat
    · have : x.toNat ≠ 0 := by omega
      simp [h, this, eq_comm]
    · have : x.toNat = 0 := by omega
      simp [this]

/-- A flags byte without unused bits, put together again from the bits a kind stores. -/
theorem flagsByte_bits {x : Byte} (h : x.toNat < 16) :
    flagsByte (x.getLsbD 0) (x.getLsbD 1) (x.getLsbD 2) (x.getLsbD 3) = x ∧
      flagsByte (x.getLsbD 0) false (x.getLsbD 2) false = x &&& 0x05 ∧
      flagsByte (x.getLsbD 0) (x.getLsbD 1) false false = x &&& 0x03 ∧
      (x.getLsbD 3 = true → flagsByte (x.getLsbD 0) false false true = x &&& 0x09) := by
  have key : ∀ n : Fin 16, ∀ y : Byte, y = BitVec.ofNat 8 n.val →
      flagsByte (y.getLsbD 0) (y.getLsbD 1) (y.getLsbD 2) (y.getLsbD 3) = y ∧
        flagsByte (y.getLsbD 0) false (y.getLsbD 2) false = y &&& 0x05 ∧
        flagsByte (y.getLsbD 0) (y.getLsbD 1) false false = y &&& 0x03 ∧
        (y.getLsbD 3 = true → flagsByte (y.getLsbD 0) false false true = y &&& 0x09) := by
    intro n y hy
    subst hy
    revert n
    decide
  exact key ⟨x.toNat, h⟩ x (by simp)

theorem bytes2_nat2 (a b : Byte) : bytes2 (nat2 a b) = [a, b] := by
  have ha := a.isLt
  have hb := b.isLt
  have h1 : byte (nat2 a b / 256) = a := by
    apply BitVec.eq_of_toNat_eq
    simp only [byte, nat2, BitVec.toNat_ofNat]
    omega
  have h2 : byte (nat2 a b) = b := by
    apply BitVec.eq_of_toNat_eq
    simp only [byte, nat2, BitVec.toNat_ofNat]
    omega
  rw [bytes2, h1, h2]

theorem byte_optional (p : Bool) (x : Byte) : byte ((if p then some x.toNat else none : Option Nat).getD 0) = if p then x else 0 := by
  cases p
  · rfl
  · simp

theorem isSome_optional (p : Bool) (x : Byte) : (if p then some x.toNat else none : Option Nat).isSome = p := by
  cases p <;> rfl

/-! ## Descriptors by kind -/

theorem read_blank {r : RawStep} (h : r.kind.toNat = 0) : RawStep.read r = some .blank := by
  simp only [RawStep.read, h]

theorem read_flush {r : RawStep} (h : r.kind.toNat = 1) (d : Descriptor) : RawStep.read r = some d ↔
    ∃ u, washUtil? r.utility = some u ∧ ¬ (r.flags.getLsbD 2 = true ∧ 99 < r.minTemp.toNat) ∧
      ¬ (r.flags.getLsbD 3 = true ∧ r.stall.toNat = 0) ∧ r.flags.toNat < 16 ∧ 1 ≤ nat2 r.amountHigh r.amountLow ∧
      nat2 r.amountHigh r.amountLow ≤ 20000 ∧
      d = .flush u (nat2 r.amountHigh r.amountLow) (if r.flags.getLsbD 2 then some r.minTemp.toNat else none)
        (if r.flags.getLsbD 3 then some r.stall.toNat else none) (r.flags.getLsbD 1) (r.flags.getLsbD 0) (stepIx r.next) := by
  simp only [RawStep.read, h]
  split
  · next u t s hu ht hs =>
    obtain ⟨ht1, ht2⟩ := (minTemp?_eq_some_iff ..).1 ht
    obtain ⟨hs1, hs2⟩ := (stallField?_eq_some_iff ..).1 hs
    rw [← ht2, ← hs2]
    have hun : decide (16 ≤ r.flags.toNat) = false ↔ r.flags.toNat < 16 := by simp
    simp only [hun]
    split
    · next hc =>
      refine ⟨fun hd => ⟨u, hu, ht1, hs1, hc.1, hc.2.1, hc.2.2, (Option.some.inj hd).symm⟩, ?_⟩
      rintro ⟨u', hu', -, -, -, -, -, rfl⟩
      rw [Option.some.inj (hu.symm.trans hu')]
    · next hc =>
      simp only [reduceCtorEq, false_iff]
      rintro ⟨_, _, _, _, h1, h2, h3, _⟩
      exact hc ⟨h1, h2, h3⟩
  · next hno =>
    simp only [reduceCtorEq, false_iff]
    rintro ⟨u, hu, ht, hs, _⟩
    exact hno _ _ _ hu ((minTemp?_eq_some_iff ..).2 ⟨ht, rfl⟩) ((stallField?_eq_some_iff ..).2 ⟨hs, rfl⟩)

theorem read_blow {r : RawStep} (h : r.kind.toNat = 2) (d : Descriptor) : RawStep.read r = some d ↔
    ∃ u, washUtil? r.utility = some u ∧ ¬ (r.flags.getLsbD 2 = true ∧ 99 < r.minTemp.toNat) ∧ r.flags.toNat < 16 ∧
      1 ≤ nat2 r.amountHigh r.amountLow ∧
      d = .blow u (nat2 r.amountHigh r.amountLow) (if r.flags.getLsbD 2 then some r.minTemp.toNat else none) (r.flags.getLsbD 0)
        (stepIx r.next) := by
  simp only [RawStep.read, h]
  split
  · next u t hu ht =>
    obtain ⟨ht1, ht2⟩ := (minTemp?_eq_some_iff ..).1 ht
    rw [← ht2]
    have hun : decide (16 ≤ r.flags.toNat) = false ↔ r.flags.toNat < 16 := by simp
    simp only [hun]
    split
    · next hc =>
      refine ⟨fun hd => ⟨u, hu, ht1, hc.1, hc.2, (Option.some.inj hd).symm⟩, ?_⟩
      rintro ⟨u', hu', -, -, -, rfl⟩
      rw [Option.some.inj (hu.symm.trans hu')]
    · next hc =>
      simp only [reduceCtorEq, false_iff]
      rintro ⟨_, _, _, h1, h2, _⟩
      exact hc ⟨h1, h2⟩
  · next hno =>
    simp only [reduceCtorEq, false_iff]
    rintro ⟨u, hu, ht, _⟩
    exact hno _ _ hu ((minTemp?_eq_some_iff ..).2 ⟨ht, rfl⟩)

theorem read_soak {r : RawStep} (h : r.kind.toNat = 3) (d : Descriptor) : RawStep.read r = some d ↔
    r.flags.toNat < 16 ∧ 1 ≤ nat2 r.amountHigh r.amountLow ∧
      d = .soak (nat2 r.amountHigh r.amountLow) (r.flags.getLsbD 1) (r.flags.getLsbD 0) (stepIx r.next) := by
  simp only [RawStep.read, h]
  have hun : decide (16 ≤ r.flags.toNat) = false ↔ r.flags.toNat < 16 := by simp
  simp only [hun]
  split
  · next hc => simp only [Option.some.injEq, hc, true_and, eq_comm]
  · next hc =>
    simp only [reduceCtorEq, false_iff]
    rintro ⟨h1, h2, _⟩
    exact hc ⟨h1, h2⟩

theorem read_inspect {r : RawStep} (h : r.kind.toNat = 4) (d : Descriptor) : RawStep.read r = some d ↔
    ∃ (w : Window) (o : ScanOrder), r.flags.getLsbD 3 = true ∧ r.stall.toNat ≠ 0 ∧ r.firstRing.toNat = w.firstRing.val ∧
      r.lastRing.toNat = w.lastRing.val ∧ r.firstSector.toNat = w.firstSector.val ∧ r.lastSector.toNat = w.lastSector.val ∧
      scanOrder? r.order = some o ∧ r.flags.toNat < 16 ∧ r.threshold.toNat ≤ 7 ∧
      d = .inspect w o r.threshold.toNat r.stall.toNat (r.flags.getLsbD 0) (stepIx r.next) := by
  simp only [RawStep.read, h]
  split
  · next s r0 r1 c0 c1 o hs h0 h1 h2 h3 ho =>
    obtain ⟨hs1, hs2⟩ := (stallField?_eq_some_iff ..).1 hs
    have h3b : r.flags.getLsbD 3 = true := by
      by_contra hn
      rw [if_neg hn] at hs2
      cases hs2
    have hstall : s = r.stall.toNat := by simpa [h3b] using hs2
    have hun : decide (16 ≤ r.flags.toNat) = false ↔ r.flags.toNat < 16 := by simp
    rw [ring?_eq_some_iff] at h0 h1
    rw [sector?_eq_some_iff] at h2 h3
    simp only [hun]
    split
    · next hc =>
      rw [Option.some.injEq]
      refine ⟨fun hd => ⟨_, o, h3b, fun hz => hs1 ⟨h3b, hz⟩, h0, h1, h2, h3, ho, hc.1, hc.2, by rw [← hd, hstall]⟩, ?_⟩
      rintro ⟨w, o', -, -, k0, k1, k2, k3, ho', -, -, rfl⟩
      obtain ⟨w0, w1, w2, w3⟩ := w
      obtain rfl : r0 = w0 := Fin.ext (h0.symm.trans k0)
      obtain rfl : r1 = w1 := Fin.ext (h1.symm.trans k1)
      obtain rfl : c0 = w2 := Fin.ext (h2.symm.trans k2)
      obtain rfl : c1 = w3 := Fin.ext (h3.symm.trans k3)
      obtain rfl : o = o' := Option.some.inj (ho.symm.trans ho')
      rw [hstall]
    · next hc =>
      simp only [reduceCtorEq, false_iff]
      rintro ⟨_, _, _, _, _, _, _, _, _, h1, h2, _⟩
      exact hc ⟨h1, h2⟩
  · next hno =>
    simp only [reduceCtorEq, false_iff]
    rintro ⟨w, o, h3, hs, h0, h1, h2, h4, ho, _⟩
    refine hno _ _ _ _ _ _ ((stallField?_eq_some_iff _ _ (some r.stall.toNat)).2 ⟨fun h => hs h.2, by simp [h3]⟩) ((ring?_eq_some_iff ..).2 h0) ((ring?_eq_some_iff ..).2 h1)
      ((sector?_eq_some_iff ..).2 h2) ((sector?_eq_some_iff ..).2 h4) ho

theorem read_otherKind {r : RawStep} (h : 4 < r.kind.toNat) : RawStep.read r = none := by
  unfold RawStep.read
  split
  case h_6 => rfl
  all_goals next hk => omega

/-- A descriptor's reading, by a predicate on the kind's fields. -/
theorem eq_none_iff_of {α : Type} {x : Option α} {p : Prop} (h : (∃ d, x = some d) ↔ p) : x = none ↔ ¬ p := by
  rw [← h, Option.eq_none_iff_forall_ne_some, not_exists]

/-- An amount is its two bytes, and 0 only where both are. -/
theorem nat2_pos_iff (a b : Byte) : 1 ≤ nat2 a b ↔ ¬ (a = 0 ∧ b = 0) := by
  rw [toNat_eq_iff, toNat_eq_iff, nat2, show (0 : Byte).toNat = 0 from rfl]
  omega

theorem kind_eq_iff (x : Byte) (n : Nat) (h : n < 256) : x = BitVec.ofNat 8 n ↔ x.toNat = n := by
  rw [toNat_eq_iff, BitVec.toNat_ofNat]
  omega

theorem accepts_flush {r : RawStep} (h : r.kind.toNat = 1) : (∃ d, RawStep.read r = some d) ↔
    r.utility.toNat ≤ 4 ∧ ¬ (r.flags.getLsbD 2 = true ∧ 99 < r.minTemp.toNat) ∧ ¬ (r.flags.getLsbD 3 = true ∧ r.stall.toNat = 0) ∧
      r.flags.toNat < 16 ∧ 1 ≤ nat2 r.amountHigh r.amountLow ∧ nat2 r.amountHigh r.amountLow ≤ 20000 := by
  have hu : (∃ u, washUtil? r.utility = some u) ↔ r.utility.toNat ≤ 4 := by
    rw [← Option.isSome_iff_exists, Option.isSome_iff_ne_none, ne_eq, washUtil?_eq_none_iff, Nat.not_lt]
  simp only [read_flush h, ← hu]
  exact ⟨fun ⟨_, u, h0, h1, h2, h3, h4, h5, _⟩ => ⟨⟨u, h0⟩, h1, h2, h3, h4, h5⟩,
    fun ⟨⟨u, h0⟩, h1, h2, h3, h4, h5⟩ => ⟨_, u, h0, h1, h2, h3, h4, h5, rfl⟩⟩

theorem accepts_blow {r : RawStep} (h : r.kind.toNat = 2) : (∃ d, RawStep.read r = some d) ↔
    r.utility.toNat ≤ 4 ∧ ¬ (r.flags.getLsbD 2 = true ∧ 99 < r.minTemp.toNat) ∧ r.flags.toNat < 16 ∧
      1 ≤ nat2 r.amountHigh r.amountLow := by
  have hu : (∃ u, washUtil? r.utility = some u) ↔ r.utility.toNat ≤ 4 := by
    rw [← Option.isSome_iff_exists, Option.isSome_iff_ne_none, ne_eq, washUtil?_eq_none_iff, Nat.not_lt]
  simp only [read_blow h, ← hu]
  exact ⟨fun ⟨_, u, h0, h1, h2, h3, _⟩ => ⟨⟨u, h0⟩, h1, h2, h3⟩, fun ⟨⟨u, h0⟩, h1, h2, h3⟩ => ⟨_, u, h0, h1, h2, h3, rfl⟩⟩

theorem accepts_soak {r : RawStep} (h : r.kind.toNat = 3) : (∃ d, RawStep.read r = some d) ↔
    r.flags.toNat < 16 ∧ 1 ≤ nat2 r.amountHigh r.amountLow := by
  simp only [read_soak h]
  exact ⟨fun ⟨_, h0, h1, _⟩ => ⟨h0, h1⟩, fun ⟨h0, h1⟩ => ⟨_, h0, h1, rfl⟩⟩

theorem accepts_inspect {r : RawStep} (h : r.kind.toNat = 4) : (∃ d, RawStep.read r = some d) ↔
    r.flags.getLsbD 3 = true ∧ r.stall.toNat ≠ 0 ∧ r.firstRing.toNat ≤ 15 ∧ r.lastRing.toNat ≤ 15 ∧ r.firstSector.toNat ≤ 11 ∧
      r.lastSector.toNat ≤ 11 ∧ r.order.toNat ≤ 3 ∧ r.flags.toNat < 16 ∧ r.threshold.toNat ≤ 7 := by
  simp only [read_inspect h]
  constructor
  · rintro ⟨_, w, o, h0, h1, k0, k1, k2, k3, ho, h2, h3, -⟩
    have ho' : r.order.toNat ≤ 3 := Nat.not_lt.1 fun hn => by
      rw [(scanOrder?_eq_none_iff _).2 hn] at ho
      cases ho
    exact ⟨h0, h1, by omega, by omega, by omega, by omega, ho', h2, h3⟩
  · rintro ⟨h0, h1, k0, k1, k2, k3, ho, h2, h3⟩
    obtain ⟨o, ho⟩ := Option.ne_none_iff_exists'.1 fun hn => Nat.not_lt.2 ho ((scanOrder?_eq_none_iff r.order).1 hn)
    exact ⟨_, ⟨⟨_, Nat.lt_succ_of_le k0⟩, ⟨_, Nat.lt_succ_of_le k1⟩, ⟨_, Nat.lt_succ_of_le k2⟩, ⟨_, Nat.lt_succ_of_le k3⟩⟩, o, h0, h1, rfl,
      rfl, rfl, rfl, ho, h2, h3, rfl⟩

/-- What a descriptor is refused for (R42), kind by kind. -/
theorem read_eq_none_iff (r : RawStep) : RawStep.read r = none ↔
    4 < r.kind.toNat ∨ (r.kind ≠ 0 ∧ 16 ≤ r.flags.toNat) ∨
    ((r.kind = 1 ∨ r.kind = 2) ∧ 4 < r.utility.toNat) ∨
    ((r.kind = 1 ∨ r.kind = 2 ∨ r.kind = 3) ∧ r.amountHigh = 0 ∧ r.amountLow = 0) ∨
    (r.kind = 1 ∧ 20000 < r.amountHigh.toNat * 256 + r.amountLow.toNat) ∨
    ((r.kind = 1 ∨ r.kind = 2) ∧ r.flags.getLsbD 2 = true ∧ 99 < r.minTemp.toNat) ∨
    (r.kind = 1 ∧ r.flags.getLsbD 3 = true ∧ r.stall = 0) ∨
    (r.kind = 4 ∧ (r.flags.getLsbD 3 = false ∨ r.stall = 0 ∨ 15 < r.firstRing.toNat ∨ 15 < r.lastRing.toNat ∨ 11 < r.firstSector.toNat ∨
      11 < r.lastSector.toNat ∨ 3 < r.order.toNat ∨ 7 < r.threshold.toNat)) := by
  have k0 : r.kind = 0 ↔ r.kind.toNat = 0 := kind_eq_iff _ 0 (by decide)
  have k1 : r.kind = 1 ↔ r.kind.toNat = 1 := kind_eq_iff _ 1 (by decide)
  have k2 : r.kind = 2 ↔ r.kind.toNat = 2 := kind_eq_iff _ 2 (by decide)
  have k3 : r.kind = 3 ↔ r.kind.toNat = 3 := kind_eq_iff _ 3 (by decide)
  have k4 : r.kind = 4 ↔ r.kind.toNat = 4 := kind_eq_iff _ 4 (by decide)
  have hs : r.stall = 0 ↔ r.stall.toNat = 0 := kind_eq_iff _ 0 (by decide)
  have hsplit : r.kind.toNat = 0 ∨ r.kind.toNat = 1 ∨ r.kind.toNat = 2 ∨ r.kind.toNat = 3 ∨ r.kind.toNat = 4 ∨ 4 < r.kind.toNat := by omega
  simp only [ne_eq, k0, k1, k2, k3, k4, hs]
  rcases hsplit with h | h | h | h | h | h
  · simp [read_blank h, h]
  · rw [eq_none_iff_of (accepts_flush h), nat2_pos_iff, nat2]
    simp only [h]
    grind
  · rw [eq_none_iff_of (accepts_blow h), nat2_pos_iff]
    simp only [h]
    grind
  · rw [eq_none_iff_of (accepts_soak h), nat2_pos_iff]
    simp only [h]
    grind
  · rw [eq_none_iff_of (accepts_inspect h)]
    simp only [h]
    grind
  · simp [read_otherKind h, h]

theorem byte_washUtil {x : Byte} {u : WashUtil} (h : washUtil? x = some u) : byte u.code = x := by
  rw [← (washUtil?_eq_some_iff x u).1 h, byte_toNat]

/-- The sixteen bytes of an accepted descriptor (11.5), kind by kind. -/
theorem bytes_of_read {r : RawStep} {d : Descriptor} (hd : RawStep.read r = some d) :
    (r.kind = 0 → d.bytes = [0, 0, 0xFF, 0, 0, 0, 0, 0, 0, 0, 0, 0, 0, 0, 0, 0]) ∧
    (r.kind = 1 → d.bytes = [1, r.flags, r.utility, r.amountHigh, r.amountLow, if r.flags.getLsbD 2 then r.minTemp else 0,
      if r.flags.getLsbD 3 then r.stall else 0, r.next, 0, 0, 0, 0, 0, 0, 0, 0]) ∧
    (r.kind = 2 → d.bytes = [2, r.flags &&& 0x05, r.utility, r.amountHigh, r.amountLow, if r.flags.getLsbD 2 then r.minTemp else 0,
      0, r.next, 0, 0, 0, 0, 0, 0, 0, 0]) ∧
    (r.kind = 3 → d.bytes = [3, r.flags &&& 0x03, 0xFF, r.amountHigh, r.amountLow, 0, 0, r.next, 0, 0, 0, 0, 0, 0, 0, 0]) ∧
    (r.kind = 4 → d.bytes = [4, r.flags &&& 0x09, 0xFF, 0, 0, 0, r.stall, r.next, r.firstRing, r.lastRing, r.firstSector, r.lastSector,
      r.order, r.threshold, 0, 0]) := by
  refine ⟨fun h => ?_, fun h => ?_, fun h => ?_, fun h => ?_, fun h => ?_⟩
  · rw [read_blank (by rw [h]; rfl)] at hd
    cases hd
    rfl
  · obtain ⟨u, hu, -, -, hf, -, -, rfl⟩ := (read_flush (by rw [h]; rfl) d).1 hd
    obtain ⟨hflags, -, -, -⟩ := flagsByte_bits hf
    simp only [Descriptor.bytes, isSome_optional, hflags, byte_washUtil hu, bytes2_nat2, byte_optional, byte_stepIx]
    rfl
  · obtain ⟨u, hu, -, hf, -, rfl⟩ := (read_blow (by rw [h]; rfl) d).1 hd
    obtain ⟨-, hflags, -, -⟩ := flagsByte_bits hf
    simp only [Descriptor.bytes, isSome_optional, hflags, byte_washUtil hu, bytes2_nat2, byte_optional, byte_stepIx]
    rfl
  · obtain ⟨hf, -, rfl⟩ := (read_soak (by rw [h]; rfl) d).1 hd
    obtain ⟨-, -, hflags, -⟩ := flagsByte_bits hf
    simp only [Descriptor.bytes, hflags, bytes2_nat2, byte_stepIx]
    rfl
  · obtain ⟨w, o, h3, -, k0, k1, k2, k3, ho, hf, -, rfl⟩ := (read_inspect (by rw [h]; rfl) d).1 hd
    obtain ⟨-, -, -, hflags⟩ := flagsByte_bits hf
    simp only [Descriptor.bytes, hflags h3, byte_toNat, byte_stepIx, ← k0, ← k1, ← k2, ← k3, ← (scanOrder?_eq_some_iff r.order o).1 ho]

/-- The entry an accepted descriptor is, kind by kind. -/
theorem fields_of_read {r : RawStep} {d : Descriptor} {amount : Nat} (hd : RawStep.read r = some d)
    (ha : amount = r.amountHigh.toNat * 256 + r.amountLow.toNat) :
    (r.kind = 0 → d = .blank) ∧
    (r.kind = 1 → ∃ u, washUtil? r.utility = some u ∧
      d = .flush u amount (if r.flags.getLsbD 2 then some r.minTemp.toNat else none) (if r.flags.getLsbD 3 then some r.stall.toNat else none)
        (r.flags.getLsbD 1) (r.flags.getLsbD 0) (stepIx r.next)) ∧
    (r.kind = 2 → ∃ u, washUtil? r.utility = some u ∧
      d = .blow u amount (if r.flags.getLsbD 2 then some r.minTemp.toNat else none) (r.flags.getLsbD 0) (stepIx r.next)) ∧
    (r.kind = 3 → d = .soak amount (r.flags.getLsbD 1) (r.flags.getLsbD 0) (stepIx r.next)) ∧
    (r.kind = 4 → ∃ w o, scanOrder? r.order = some o ∧ w.firstRing.val = r.firstRing.toNat ∧ w.lastRing.val = r.lastRing.toNat ∧
      w.firstSector.val = r.firstSector.toNat ∧ w.lastSector.val = r.lastSector.toNat ∧
      d = .inspect w o r.threshold.toNat r.stall.toNat (r.flags.getLsbD 0) (stepIx r.next)) := by
  subst ha
  refine ⟨fun h => ?_, fun h => ?_, fun h => ?_, fun h => ?_, fun h => ?_⟩
  · rw [read_blank (by rw [h]; rfl)] at hd
    exact (Option.some.inj hd).symm
  · obtain ⟨u, hu, -, -, -, -, -, rfl⟩ := (read_flush (by rw [h]; rfl) d).1 hd
    exact ⟨u, hu, rfl⟩
  · obtain ⟨u, hu, -, -, -, rfl⟩ := (read_blow (by rw [h]; rfl) d).1 hd
    exact ⟨u, hu, rfl⟩
  · exact ((read_soak (by rw [h]; rfl) d).1 hd).2.2
  · obtain ⟨w, o, -, -, k0, k1, k2, k3, ho, -, -, rfl⟩ := (read_inspect (by rw [h]; rfl) d).1 hd
    exact ⟨w, o, ho, k0.symm, k1.symm, k2.symm, k3.symm, rfl⟩

/-! ## Writing and reading the store -/

theorem pinned_iff (t : StepStore) (i : StepIx) : t.pinned i = true ↔ ∃ b : Bay, t.pins[b] = some i := by
  simp only [StepStore.pinned, List.any_eq_true, beq_iff_eq]
  exact ⟨fun ⟨b, _, h⟩ => ⟨b, h⟩, fun ⟨b, h⟩ => ⟨b, mem_allBays b, h⟩⟩

/-- One descriptor of a run: written where the entry is not pinned, the pointer on, and the rest of the run from there. -/
theorem writeAll_cons (t : StepStore) (d : Descriptor) (ds : List Descriptor) :
    ∃ u : StepStore,
      u.pointer = (if t.pointer = t.last then t.first else t.pointer + 1) ∧ u.first = t.first ∧ u.last = t.last ∧ u.pins = t.pins ∧
      (t.pinned t.pointer = true → u.entries = t.entries ∧ t.writeAll (d :: ds) = u.writeAll ds) ∧
      (t.pinned t.pointer = false → u.entries = t.entries.set t.pointer d ∧
        t.writeAll (d :: ds) = ((u.writeAll ds).1, (u.writeAll ds).2 + 1)) := by
  cases hp : t.pinned t.pointer
  · refine ⟨({ t with entries := t.entries.set t.pointer d } : StepStore).advance, rfl, rfl, rfl, rfl, fun h => absurd h (by decide),
      fun _ => ⟨rfl, ?_⟩⟩
    simp [StepStore.writeAll, StepStore.writeOne, hp]
  · refine ⟨t.advance, rfl, rfl, rfl, rfl, fun _ => ⟨rfl, ?_⟩, fun h => absurd h (by decide)⟩
    simp [StepStore.writeAll, StepStore.writeOne, hp]

theorem answerStepWrite_takes {rs : List RawStep} {ds : List Descriptor} (h1 : 1 ≤ rs.length) (h8 : rs.length ≤ 8)
    (hd : rs.map RawStep.read = ds.map some) (s : State) :
    answerStepWrite rs s = ({ s with store := (s.store.writeAll ds).1 },
      .ok [byte (s.store.writeAll ds).2, byte (ds.length - (s.store.writeAll ds).2), byte (s.store.writeAll ds).1.pointer.val]) := by
  have hn : ¬ (rs.length = 0 ∨ 8 < rs.length) := by omega
  simp only [answerStepWrite, if_neg hn, (all?_eq_some_iff RawStep.read rs ds).2 hd]

theorem answerStepWrite_refused {rs : List RawStep} (h : rs.length = 0 ∨ 8 < rs.length ∨ ∃ r ∈ rs, RawStep.read r = none) (s : State) :
    answerStepWrite rs s = (s, .refuse .badValue) := by
  unfold answerStepWrite
  split
  · rfl
  · next hn =>
    have hbad : ∃ r ∈ rs, RawStep.read r = none := by
      rcases h with h | h | h
      · exact absurd (.inl h) hn
      · exact absurd (.inr h) hn
      · exact h
    rw [(all?_eq_none_iff _ _).2 hbad]

/-- Settles O21: the count and the descriptors judged whole, each kind's reading and layout, and the run at the pointer. -/
theorem stepWriteTakesDescriptorsInOrder : Obligations.StepWriteTakesDescriptorsInOrder :=
  ⟨fun _ rs _ s hf h1 h8 hd => exec_answer (r := .stepWrite rs) rfl hf (.inl rfl) (answerStepWrite_takes h1 h8 hd s),
    fun _ rs s hf h => exec_answer (r := .stepWrite rs) rfl hf (.inl rfl) (answerStepWrite_refused h s),
    read_eq_none_iff, fun _ _ hd => bytes_of_read hd, fun _ _ _ hd ha => fields_of_read hd ha, pinned_iff, fun _ => rfl, writeAll_cons⟩

/-- The indices read run on from the first, and round the store's end. -/
theorem readIndices_eq (index : Byte) (n : Nat) :
    readIndices (stepIx index) n = (List.range n).map fun i => stepIx (byte (index.toNat + i)) := by
  refine List.map_congr_left fun i _ => Fin.ext ?_
  simp only [Fin.val_add, Fin.val_ofNat, stepIx, byte, BitVec.toNat_ofNat]
  omega

/-- Settles O22: the owner answers both links, and its answer turns on the count's range. -/
theorem stepReadReturnsConsecutiveEntries : Obligations.StepReadReturnsConsecutiveEntries := by
  intro l tag index count s hf
  refine ⟨fun h1 h8 => ?_, fun h => ?_⟩
  · refine exec_answer (r := .stepRead index count) rfl hf (.inr rfl) ?_
    have hentry : ∀ i : Nat, s.store.entryBytes (stepIx (byte (index.toNat + i))) =
        byte (index.toNat + i) :: flag (s.store.pinned (stepIx (byte (index.toNat + i)))) ::
          (s.entry (stepIx (byte (index.toNat + i)))).bytes := fun i => by
      rw [StepStore.entryBytes, byte_stepIx]
      rfl
    simp only [answer, answerStepRead, if_pos (And.intro h1 h8), readIndices_eq, List.flatMap_map, hentry]
    rfl
  · refine exec_answer (r := .stepRead index count) rfl hf (.inr rfl) ?_
    have hn : ¬ (1 ≤ count.toNat ∧ count.toNat ≤ 8) := by omega
    simp only [answer, answerStepRead, if_neg hn]

end Sys2Proof.Machine
end

section
/-! PROOFS. Cascades and the lines: how a cascade is carried out, what the reset line returns, and the changes of mode by SET_MODE, by the
stop line and by the marks. -/

namespace Sys2Proof.Machine

/-- Settles O56: a cascade unfolds one task at a time, keeps its frame whatever the tasks, and no fuel above its measure changes its result. -/
theorem cascadesEndAndKeepTheirFrame : Obligations.CascadesEndAndKeepTheirFrame :=
  ⟨settle_nil, fun s t ts => settle_cons t ts s, fun s ts => ⟨settle_frame ts s, s.fuel ts, fun m hm =>
    settleFor_enough m (s.fuel ts) ts s hm le_rfl⟩⟩

/-! ## The reset line -/

/-- While the reset line is held, no row but those of the lines changes anything (R183). -/
theorem exec_held {c : Instr} {s : State} (hs : s.pins.resetHeld = true) (hc : isLineRow c = false) : exec c s = .next s := by
  cases c
  case resetLineAssert => exact absurd hc (by decide)
  case resetLineRelease straps => exact absurd hc (by simp [isLineRow])
  case stopLineRise => exact absurd hc (by decide)
  case stopLineFall => exact absurd hc (by decide)
  case faultLineRise u => exact absurd hc (by simp [isLineRow])
  case faultLineFall u => exact absurd hc (by simp [isLineRow])
  all_goals exact congrArg _ (live_held _ _ hs)

/-- The utilities read at the release of the reset line: their default capacities and their fault lines (R130). -/
theorem util_released (s : State) (straps : Fin 8) (u : UtilId) :
    (s.released straps).util u = Util.reset (State.reset.util u).capacity s.pins.faults[utilIx u] := by
  simp [State.util, State.released, State.reset, Util.reset]

/-- Settles O55. -/
theorem theResetLineReturnsThePartToItsResetValues : Obligations.TheResetLineReturnsThePartToItsResetValues := by
  refine ⟨fun s => rfl, fun straps s => ⟨fun h => ⟨s.released straps, ?_, util_released s straps, ?_⟩, fun h => ?_⟩, fun b => ?_,
    fun l => ?_, fun c s hs hc => exec_held hs hc, fun v u s hs => ⟨?_, ?_⟩⟩
  · exact congrArg _ (if_pos h)
  · have hr : rateOfStraps straps = if straps.val ≤ 5 then straps.val else 0 := by
      revert straps
      decide
    rw [← hr]
    rfl
  · exact congrArg _ (if_neg (by simp [h]))
  · fin_cases b <;> rfl
  · cases l <;> exact ⟨rfl, rfl, rfl, rfl, rfl, rfl, rfl⟩
  · cases v
    · exact congrArg _ (live_held (s.stopPin false) _ hs)
    · exact congrArg _ (live_held (s.stopPin true) _ hs)
  · cases v
    · exact congrArg _ (live_held (s.faultPin u false) _ hs)
    · exact congrArg _ (live_held (s.faultPin u true) _ hs)

/-! ## Changes of mode -/

/-- A change of mode into RUN or STOPPED: the mode is set, the lanes act, and MODE_CHANGE is raised (R176, R177). -/
theorem changeMode_working {s : State} {entered : Mode} (h : entered ≠ .dormant) (cause : ModeCause) : s.changeMode entered cause =
    ({ s with mode := entered } : State).settle (modeTasks s.mode entered ++ [.modeChange s.mode entered cause]) := by
  unfold State.changeMode
  dsimp only
  rw [if_neg h]

/-- A change of mode into DORMANT parks every lane first (R92, R177). -/
theorem changeMode_dormant (s : State) (cause : ModeCause) : s.changeMode .dormant cause =
    ({ s with mode := .dormant } : State).parkLanes.settle (modeTasks s.mode .dormant ++ [.modeChange s.mode .dormant cause]) := rfl

theorem changeMode_stop {s : State} (h : s.mode = .run) (cause : ModeCause) : s.changeMode .stopped cause =
    ({ s with mode := .stopped } : State).settle (allBays.map (fun b => .hold b .stop) ++ [.modeChange .run .stopped cause]) := by
  rw [changeMode_working (by decide), h]
  rfl

/-- An event taken while the reset line is not held. -/
theorem live_eq {s t : State} {f : State → State} (hs : s.pins.resetHeld = false) (h : f s = t) : s.live f = t.choose := by
  rw [live_released _ _ hs, h]

/-- Settles O26. -/
theorem theStopLineStopsARunningYard : Obligations.TheStopLineStopsARunningYard := by
  refine fun s hs => ⟨fun hm => ?_, fun hm => ?_, ?_⟩
  · have hr : (s.stopPin true).stopRise = ({ s.stopPin true with stopLevel := true } : State).changeMode .stopped .stopLine := if_pos hm
    rw [changeMode_stop (by exact hm)] at hr
    exact congrArg Host.Outcome.next (live_eq (s := s.stopPin true) hs hr)
  · exact congrArg Host.Outcome.next (live_eq (s := s.stopPin true) (f := State.stopRise) hs (if_neg hm))
  · exact congrArg Host.Outcome.next (live_eq (s := s.stopPin false) (f := State.stopFall) hs rfl)

/-! ## Parking every lance -/

theorem port_setLane_other (s : State) {b c : Bay} (l : Lane) (h : b ≠ c) : (s.setLane b l).port c = s.port c := by
  have : b.val ≠ c.val := fun e => h (Fin.ext e)
  unfold State.setLane State.port
  dsimp only
  split
  · rfl
  · exact Vector.getElem_set_ne _ _ this

theorem port_setLane (s : State) (b : Bay) (m : Lane) : (s.setLane b m).port b =
    if ordersOf (s.entry m.index) m = (s.lane b).orders then s.port b else (s.port b).change (ordersOf (s.entry m.index) m) := by
  unfold State.setLane State.port
  dsimp only
  split
  · rfl
  · exact Vector.getElem_set_self _

/-- A lane write reads of the machine the bay's lane and port and the step store's entries. -/
theorem setLane_congr {s t : State} {b : Bay} (m : Lane) (he : t.store.entries = s.store.entries) (hl : t.lane b = s.lane b)
    (hp : t.port b = s.port b) :
    (t.setLane b m).lane b = (s.setLane b m).lane b ∧ (t.setLane b m).port b = (s.setLane b m).port b := by
  have hent : t.entry m.index = s.entry m.index := congrArg (fun x : Vector Descriptor 256 => x[m.index]) he
  exact ⟨by rw [lane_setLane, lane_setLane, hent], by rw [port_setLane, port_setLane, hent, hl, hp]⟩

/-- A run of lanes parked: lanes and ports alone can change, those of the run as one lane parked, the others not. -/
theorem foldl_park (bs : List Bay) (s t : State) (ht : t = bs.foldl (fun q b => q.setLane b (q.lane b).park) s) (hn : bs.Nodup) :
    t = { s with lanes := t.lanes, ports := t.ports } ∧
    (∀ b ∈ bs, t.lane b = (s.setLane b (s.lane b).park).lane b ∧ t.port b = (s.setLane b (s.lane b).park).port b) ∧
    ∀ b ∉ bs, t.lane b = s.lane b ∧ t.port b = s.port b := by
  induction bs generalizing s with
  | nil => exact ⟨by rw [ht]; rfl, by simp, fun b _ => by rw [ht]; exact ⟨rfl, rfl⟩⟩
  | cons c bs ih =>
    obtain ⟨hc, hn⟩ := List.nodup_cons.mp hn
    obtain ⟨heq, hin, hout⟩ := ih (s.setLane c (s.lane c).park) ht hn
    refine ⟨heq, fun b hb => ?_, fun b hb => ?_⟩
    · by_cases hbc : b = c
      · exact hbc ▸ hout c hc
      · obtain ⟨hl, hp⟩ := hin b (List.mem_of_ne_of_mem hbc hb)
        have hlane := lane_setLane_other s (s.lane c).park (Ne.symm hbc)
        rw [hlane] at hl hp
        have hsame := setLane_congr (s := s) (t := s.setLane c (s.lane c).park) (s.lane b).park rfl hlane
          (port_setLane_other s _ (Ne.symm hbc))
        exact ⟨hl.trans hsame.1, hp.trans hsame.2⟩
    · obtain ⟨hbc, hbs⟩ := not_or.mp (List.mem_cons.not.mp hb)
      obtain ⟨hl, hp⟩ := hout b hbs
      exact ⟨hl.trans (lane_setLane_other s _ (Ne.symm hbc)), hp.trans (port_setLane_other s _ (Ne.symm hbc))⟩

theorem parkLanes_eq (s : State) : s.parkLanes = { s with lanes := s.parkLanes.lanes, ports := s.parkLanes.ports } :=
  (foldl_park allBays s _ rfl (List.nodup_finRange 6)).1

theorem parkLanes_bay (s : State) (b : Bay) :
    s.parkLanes.lane b = (s.setLane b (s.lane b).park).lane b ∧ s.parkLanes.port b = (s.setLane b (s.lane b).park).port b :=
  (foldl_park allBays s _ rfl (List.nodup_finRange 6)).2.1 b (mem_allBays b)

/-- An IDLE lane keeps its lance order and shows otherwise none, open, closed, off (R92). -/
theorem ordersOf_idle {m : Lane} (d : Descriptor) (h : m.st = .idle) :
    ordersOf d m = { lance := m.orders.lance, supply := none, drain := true, fill := false, probe := false } := by
  simp only [ordersOf, h]

theorem mode_changeMode (s : State) (m : Mode) (cause : ModeCause) : (s.changeMode m cause).mode = m := by
  refine (settle_frame _ _).mode.trans ?_
  split
  · rw [parkLanes_eq]
  · rfl

/-! ## SET_MODE -/

theorem answerSetMode_none {x : Byte} (h : 2 < x.toNat) (s : State) : answerSetMode x s = (s, .refuse .badValue) := by
  simp only [answerSetMode, (mode?_eq_none_iff x).mpr h]

section
variable {x : Byte} {asked m : Mode} {s : State}

theorem answerSetMode_refused (hx : mode? x = some asked) (hm : s.modeFor asked = none) :
    answerSetMode x s = (s, { result := .wrongState, fields := [byte s.mode.code], limited := false, prior := false }) := by
  simp only [answerSetMode, hx, hm]

theorem answerSetMode_same (hx : mode? x = some asked) (hm : s.modeFor asked = some s.mode) :
    answerSetMode x s = (s, .ok [byte s.mode.code]) := by
  simp only [answerSetMode, hx, hm, if_true]

theorem answerSetMode_enters (hx : mode? x = some asked) (hm : s.modeFor asked = some m) (h : m ≠ s.mode) :
    answerSetMode x s = (s.changeMode m .setMode, .ok [byte m.code]) := by
  simp only [answerSetMode, hx, hm, if_neg h, mode_changeMode]

end

theorem stopStands_iff (s : State) : s.stopStands = true ↔ s.stopLevel = true ∨ s.marks[7] = true := by
  simp [State.stopStands]

theorem noVisit_iff (s : State) : s.noVisit = true ↔ ∀ b, s.visit b = none := by
  simp [State.noVisit, mem_allBays]

/-- SET_MODE into RUN or STOPPED. -/
theorem exec_setMode_working {l : LinkId} {tag x : Byte} {asked m : Mode} {s : State} (hf : s.LinkFree l) (hx : mode? x = some asked)
    (hm : s.modeFor asked = some m) (h : m ≠ s.mode) (hd : m ≠ .dormant) : exec (.setMode l tag x) s =
      .next ((({ s with mode := m } : State).settle (modeTasks s.mode m ++ [.modeChange s.mode m .setMode])).answered l 0x02 tag
        (.ok [byte m.code])) := by
  rw [exec_answer (r := .setMode x) rfl hf (.inr rfl) (answerSetMode_enters hx hm h), changeMode_working hd]
  rfl

/-- SET_MODE into DORMANT. -/
theorem exec_setMode_dormant {l : LinkId} {tag x : Byte} {asked : Mode} {s : State} (hf : s.LinkFree l) (hx : mode? x = some asked)
    (hm : s.modeFor asked = some .dormant) (h : .dormant ≠ s.mode) : exec (.setMode l tag x) s =
      .next ((({ s with mode := .dormant } : State).parkLanes.settle (modeTasks s.mode .dormant ++
        [.modeChange s.mode .dormant .setMode])).answered l 0x02 tag (.ok [0])) := by
  rw [exec_answer (r := .setMode x) rfl hf (.inr rfl) (answerSetMode_enters hx hm h), changeMode_dormant]
  rfl

/-- Settles O25. -/
theorem setModeFollowsItsTable : Obligations.SetModeFollowsItsTable := by
  refine ⟨fun l tag x s hf hx => exec_answer (r := .setMode x) rfl hf (.inr rfl) (answerSetMode_none hx s),
    fun left entered cause s => rfl, parkLanes_eq, fun b m s hm => ?_, fun l tag x asked s hf hx => ?_⟩
  · obtain ⟨hlane, hport⟩ := parkLanes_bay s b
    subst hm
    refine ⟨hlane, hport, fun hi => ?_⟩
    have hpark : (s.lane b).park.st = .idle := hi
    rw [hlane, lane_setLane, ordersOf_idle _ hpark]
    rfl
  · refine ⟨fun ha => ?_, fun hm ha hst => ?_, fun hm ha h1 h2 => ?_, fun hm ha => ?_, fun hm ha h1 h2 => ?_, fun hm ha hst => ?_,
      fun hm ha hv => ?_, fun hm ha hv => ?_, fun hm ha hv => ?_⟩
    · have hmode : s.modeFor asked = some s.mode := by
        subst ha
        cases hm : s.mode <;> simp [State.modeFor, hm]
      have hcode : byte s.mode.code = x := by
        rw [toNat_eq_iff, ← ha, (mode?_eq_some_iff x asked).mp hx]
        cases asked <;> rfl
      have h := exec_answer (c := .setMode l tag x) (r := .setMode x) rfl hf (.inr rfl) (answerSetMode_same hx hmode)
      rwa [hcode] at h
    · have hmode : s.modeFor asked = some .stopped := by simp [State.modeFor, hm, ha, (stopStands_iff s).mpr hst]
      have h := exec_setMode_working (tag := tag) hf hx hmode (by simp [hm]) (by decide)
      rwa [hm] at h
    · have hmode : s.modeFor asked = some .run := by simp [State.modeFor, hm, ha, State.stopStands, h1, h2]
      have h := exec_setMode_working (tag := tag) hf hx hmode (by simp [hm]) (by decide)
      rwa [hm] at h
    · have hmode : s.modeFor asked = some .stopped := by cases hs : s.mode <;> simp [State.modeFor, hs, ha]
      have h := exec_setMode_working (tag := tag) hf hx hmode (Ne.symm hm) (by decide)
      have htasks : modeTasks s.mode .stopped = allBays.map (fun b => .hold b .stop) := by
        cases hs : s.mode with
        | dormant => rfl
        | run => rfl
        | stopped => exact absurd hs hm
      rwa [htasks] at h
    · have hmode : s.modeFor asked = some .run := by simp [State.modeFor, hm, ha, State.stopStands, h1, h2]
      have h := exec_setMode_working (tag := tag) hf hx hmode (by simp [hm]) (by decide)
      rwa [hm] at h
    · have hmode : s.modeFor asked = none := by simp [State.modeFor, hm, ha, (stopStands_iff s).mpr hst]
      have h := exec_answer (c := .setMode l tag x) (r := .setMode x) rfl hf (.inr rfl) (answerSetMode_refused hx hmode)
      rwa [hm] at h
    · have hvisit : s.noVisit = false := by
        rw [Bool.eq_false_iff, ne_eq, noVisit_iff]
        exact not_forall.mpr hv
      have hmode : s.modeFor asked = none := by
        cases hs : s.mode with
        | dormant => exact absurd hs hm
        | run => simp [State.modeFor, hs, ha, hvisit]
        | stopped => simp [State.modeFor, hs, ha, hvisit]
      exact exec_answer (r := .setMode x) rfl hf (.inr rfl) (answerSetMode_refused hx hmode)
    · have hmode : s.modeFor asked = some .dormant := by simp [State.modeFor, hm, ha, (noVisit_iff s).mpr hv]
      have h := exec_setMode_dormant (tag := tag) hf hx hmode (by simp [hm])
      rwa [hm] at h
    · have hmode : s.modeFor asked = some .dormant := by simp [State.modeFor, hm, ha, (noVisit_iff s).mpr hv]
      have h := exec_setMode_dormant (tag := tag) hf hx hmode (by simp [hm])
      rwa [hm] at h

/-! ## Marks -/

theorem answerMark_refused {op mark : Byte} (h : 3 < op.toNat ∨ 31 < mark.toNat) (s : State) :
    answerMark op mark s = (s, .refuse .badValue) := by
  rcases h with h | h
  · simp only [answerMark, (markOp?_eq_none_iff op).mpr h]
  · cases hop : markOp? op <;> simp only [answerMark, hop, (mark?_eq_none_iff mark).mpr h]

/-- A MARK operation on one of the 32 marks: Prior carries its value before, the reply the value after (R178). -/
theorem answerMark_eq {mark : Byte} {m : Fin 32} (h : mark.toNat = m.val) (o : MarkOp) (s : State) :
    answerMark o.code mark s = (if o.value s.marks[m] = s.marks[m] then s else s.putMark m (o.value s.marks[m]),
      { result := .ok, fields := [mark, flag (o.value s.marks[m])], limited := false, prior := s.marks[m] }) := by
  simp only [answerMark, (markOp?_eq_some_iff o.code o).mpr rfl, (mark?_eq_some_iff mark m).mpr h]

theorem answerMark_keeps {mark : Byte} {m : Fin 32} {v : Bool} {o : MarkOp} {s : State} (h : mark.toNat = m.val) (hv : s.marks[m] = v)
    (ho : o.value v = v) :
    answerMark o.code mark s = (s, { result := .ok, fields := [mark, flag v], limited := false, prior := v }) := by
  rw [answerMark_eq h, hv, if_pos ho, ho]

theorem answerMark_changes {mark : Byte} {m : Fin 32} {v w : Bool} {o : MarkOp} {s : State} (h : mark.toNat = m.val) (hv : s.marks[m] = v)
    (ho : o.value v = w) (hw : w ≠ v) : answerMark o.code mark s = (s.putMark m w,
      { result := .ok, fields := [mark, flag w], limited := false, prior := v }) := by
  rw [answerMark_eq h, hv, ho, if_neg hw]

theorem lockoutBay?_eq_none {m : Fin 32} (h : m.val = 0 ∨ 7 ≤ m.val) : lockoutBay? m = none := dif_neg (by omega)

theorem lockoutBay?_eq_some {m : Fin 32} {b : Bay} (h : m.val = b.val + 1) : lockoutBay? m = some b := by
  unfold lockoutBay?
  rw [dif_pos (by omega)]
  exact congrArg some (Fin.ext (show m.val - 1 = b.val by omega))

/-- A change of a mark that is not wired, or of mark 7 outside its one effect, changes the mark alone. -/
theorem putMark_unwired {s : State} {m : Fin 32} {v : Bool} (h : m.val = 0 ∨ 7 ≤ m.val) (h7 : m.val = 7 → v = true → s.mode ≠ .run) :
    s.putMark m v = { s with marks := s.marks.set m v } := by
  simp only [State.putMark, lockoutBay?_eq_none h]
  exact if_neg fun ⟨hm, hv, hr⟩ => h7 (congrArg Fin.val hm) hv hr

theorem putMark_lockout {s : State} {m : Fin 32} {b : Bay} (h : m.val = b.val + 1) (v : Bool) : s.putMark m v =
    ({ s with marks := s.marks.set m v } : State).settle [if v then .hold b .lockout else .unhold b .lockout] := by
  simp only [State.putMark, lockoutBay?_eq_some h]

theorem putMark_stops {s : State} {m : Fin 32} (h : m.val = 7) (hr : s.mode = .run) : s.putMark m true =
    ({ s with marks := s.marks.set m true, mode := .stopped } : State).settle
      (allBays.map (fun b => .hold b .stop) ++ [.modeChange .run .stopped .mark7]) := by
  have h7 : m = 7 := Fin.ext h
  simp only [State.putMark, lockoutBay?_eq_none (.inr (le_of_eq h.symm))]
  rw [if_pos ⟨h7, trivial, hr⟩]
  exact changeMode_stop (s := { s with marks := s.marks.set m true }) hr .mark7

/-- Settles O24. -/
theorem marksTakeTheirValuesAndActWhereWired : Obligations.MarksTakeTheirValuesAndActWhereWired := by
  refine ⟨fun l tag mark s hf hm c hc => ?_, fun op mark s h => answerMark_refused (.inl h) s, fun l tag mark m s hf hm => ⟨?_, ?_, ?_, ?_, ?_⟩⟩
  · simp only [List.mem_cons, List.not_mem_nil, or_false] at hc
    rcases hc with rfl | rfl | rfl | rfl
    · exact exec_answer (r := .mark 0 mark) rfl hf (.inr rfl) (answerMark_refused (.inr hm) s)
    · exact exec_answer (r := .mark 1 mark) rfl hf (.inr rfl) (answerMark_refused (.inr hm) s)
    · exact exec_answer (r := .mark 2 mark) rfl hf (.inr rfl) (answerMark_refused (.inr hm) s)
    · exact exec_answer (r := .mark 3 mark) rfl hf (.inr rfl) (answerMark_refused (.inr hm) s)
  · exact exec_answer (r := .mark 0 mark) rfl hf (.inr rfl) (answerMark_keeps (o := .test) hm rfl rfl)
  · exact fun hv => exec_answer (r := .mark 1 mark) rfl hf (.inr rfl) (answerMark_keeps (o := .set) hm hv rfl)
  · exact fun hv => exec_answer (r := .mark 2 mark) rfl hf (.inr rfl) (answerMark_keeps (o := .clear) hm hv rfl)
  · refine fun c hv hc => ⟨s.putMark m true, ?_, fun h => putMark_unwired (h.imp_right (by omega)) (fun h7 => by omega),
      fun b hb => putMark_lockout hb true, fun h hr => putMark_unwired (.inr (le_of_eq h.symm)) (fun _ _ => hr),
      fun h hr => putMark_stops h hr⟩
    rcases hc with rfl | rfl
    · exact exec_answer (r := .mark 1 mark) rfl hf (.inr rfl) (answerMark_changes (o := .set) hm hv rfl (by decide))
    · exact exec_answer (r := .mark 3 mark) rfl hf (.inr rfl) (answerMark_changes (o := .flip) hm hv rfl (by decide))
  · refine fun c hv hc => ⟨s.putMark m false, ?_, fun h => putMark_unwired h (fun _ hf => absurd hf (by decide)),
      fun b hb => putMark_lockout hb false⟩
    rcases hc with rfl | rfl
    · exact exec_answer (r := .mark 2 mark) rfl hf (.inr rfl) (answerMark_changes (o := .clear) hm hv rfl (by decide))
    · exact exec_answer (r := .mark 3 mark) rfl hf (.inr rfl) (answerMark_changes (o := .flip) hm hv rfl (by decide))

end Sys2Proof.Machine
end

section
/-! PROOFS. Events in the notice unit: folded or entered, the oldest candidate logged, pending sets read and cleared, and the unit as
RESTART leaves it (R158 to R166, R182). -/

namespace Sys2Proof.Machine

namespace NoticeUnit

/-! ## The oldest candidate -/

theorem older_iff (a b : Scope × Entry) : older a b = true ↔
    a.2.order < b.2.order ∨ (a.2.order = b.2.order ∧ (a.1 < b.1 ∨ (a.1 = b.1 ∧ a.2.event.kind.code < b.2.event.kind.code))) := by
  simp only [older, Bool.or_eq_true, Bool.and_eq_true, decide_eq_true_eq, beq_iff_eq, Fin.lt_def, Fin.ext_iff]

/-- Of two waiting entries one at most is the older. -/
theorem older_asymm {a b : Scope × Entry} (h : older a b = true) : older b a = false := by
  rw [Bool.eq_false_iff, ne_eq, older_iff]
  rw [older_iff] at h
  grind

theorem older_irrefl (a : Scope × Entry) : older a a = false := Bool.eq_false_iff.mpr fun h => by
  simpa [h] using older_asymm h

theorem oldest_eq_none_iff (xs : List (Scope × Entry)) : oldest xs = none ↔ xs = [] := by
  cases xs with
  | nil => exact ⟨fun _ => rfl, fun _ => rfl⟩
  | cons x xs =>
    refine ⟨fun h => ?_, fun h => absurd h (List.cons_ne_nil _ _)⟩
    unfold oldest at h
    split at h
    · exact absurd h (by simp)
    · split at h <;> exact absurd h (by simp)

theorem mem_of_oldest_eq {y : Scope × Entry} (xs : List (Scope × Entry)) (h : oldest xs = some y) : y ∈ xs := by
  induction xs with
  | nil => exact absurd h (by simp [oldest])
  | cons x xs ih =>
    unfold oldest at h
    split at h
    · exact Option.some.inj h ▸ List.mem_cons_self
    · next z hz =>
      split at h
      · obtain rfl := Option.some.inj h
        exact List.mem_cons_of_mem x (ih hz)
      · exact Option.some.inj h ▸ List.mem_cons_self

/-- An entry older than every other of the list is its oldest. -/
theorem oldest_eq_of_older {p : Scope × Entry} (xs : List (Scope × Entry)) (hp : p ∈ xs) (h : ∀ q ∈ xs, q ≠ p → older p q = true) :
    oldest xs = some p := by
  induction xs with
  | nil => exact absurd hp List.not_mem_nil
  | cons x xs ih =>
    have hx : ∀ q ∈ xs, q ≠ p → older p q = true := fun q hq => h q (List.mem_cons_of_mem x hq)
    unfold oldest
    cases ho : oldest xs with
    | none =>
      rw [(oldest_eq_none_iff xs).mp ho, List.mem_singleton] at hp
      rw [hp]
    | some y =>
      dsimp only
      by_cases hpx : p ∈ xs
      · obtain rfl : p = y := Option.some.inj ((ih hpx hx).symm.trans ho)
        by_cases hxp : x = p
        · rw [hxp, older_irrefl]
          rfl
        · rw [if_pos (h x List.mem_cons_self hxp)]
      · obtain rfl : p = x := (List.mem_cons.mp hp).resolve_right hpx
        have hy : y ∈ xs := mem_of_oldest_eq xs ho
        have hyp : y ≠ p := fun e => hpx (e ▸ hy)
        rw [if_neg (by rw [older_asymm (hx y hy hyp)]; decide)]

theorem mem_candidates (u : NoticeUnit) (urgent : Bool) (sc : Scope) (x : Entry) : (sc, x) ∈ u.candidates urgent ↔
    x ∈ u.set sc ∧ x.event.kind.urgent = urgent ∧ u.masked x.event.kind = false := by
  have hall : ∀ sc : Scope, sc ∈ allScopes := by decide
  simp [candidates, hall]

/-! ## A queue judged -/

theorem capacity_eq (urgent : Bool) : capacity urgent = if urgent then 8 else 32 := by cases urgent <;> rfl

theorem judge_of_logOne_none {u : NoticeUnit} {urgent : Bool} (h : u.logOne urgent = none) : u.judge urgent = u := by
  unfold judge
  cases capacity urgent - (u.queue urgent).length with
  | zero => rfl
  | succ n => simp only [logUpTo, h]

/-- Notice output off, a full queue, or no candidate: nothing is logged (R160). -/
theorem judge_idle {u : NoticeUnit} {urgent : Bool} (h : u.output = false ∨ capacity urgent ≤ (u.queue urgent).length ∨
    ∀ sc, ∀ x ∈ u.set sc, x.event.kind.urgent = urgent → u.masked x.event.kind = true) : u.judge urgent = u := by
  apply judge_of_logOne_none
  unfold logOne
  by_cases hroom : u.output = true ∧ (u.queue urgent).length < capacity urgent
  · rw [if_pos hroom]
    rcases h with h | h | h
    · exact absurd hroom.1 (by simp [h])
    · exact absurd hroom.2 (by omega)
    · have hnone : u.candidates urgent = [] := by
        refine List.eq_nil_iff_forall_not_mem.mpr fun p hp => ?_
        obtain ⟨hx, hu, hm⟩ := (mem_candidates u urgent p.1 p.2).mp hp
        simp [h p.1 p.2 hx hu] at hm
      simp only [hnone, oldest]
  · rw [if_neg hroom]

theorem queue_removeKind (u : NoticeUnit) (urgent : Bool) (sc : Scope) (k : EventKind) :
    (u.removeKind sc k).queue urgent = u.queue urgent := by cases urgent <;> simp [queue]

theorem queue_setQueue (u : NoticeUnit) (urgent : Bool) (q : List Notice) : (u.setQueue urgent q).queue urgent = q := by
  cases urgent <;> rfl

/-- With room and notice output on, the oldest candidate moves into its queue, and the queue is judged again (R160). -/
theorem judge_logs {u : NoticeUnit} {urgent : Bool} {sc : Scope} {x : Entry} (ho : u.output = true)
    (hroom : (u.queue urgent).length < capacity urgent) (hx : oldest (u.candidates urgent) = some (sc, x)) : u.judge urgent =
      ((u.setQueue urgent (u.queue urgent ++ [{ scope := sc, event := x.event, count := x.count }])).removeKind sc
        x.event.kind).judge urgent := by
  have hone : u.logOne urgent = some ((u.setQueue urgent (u.queue urgent ++
      [{ scope := sc, event := x.event, count := x.count }])).removeKind sc x.event.kind) := by
    unfold logOne
    rw [if_pos ⟨ho, hroom⟩, hx]
  obtain ⟨n, hn⟩ : ∃ n, capacity urgent - (u.queue urgent).length = n + 1 := ⟨_, (Nat.succ_pred (by omega)).symm⟩
  have hleft : capacity urgent - ((u.queue urgent).length + 1) = n := by omega
  unfold judge
  rw [hn, logUpTo, hone, queue_removeKind, queue_setQueue, List.length_append, List.length_singleton, hleft]

/-- The candidate older than every other is the one logged. -/
theorem judge_logs_older {u : NoticeUnit} {urgent : Bool} {sc : Scope} {x : Entry} (ho : u.output = true)
    (hroom : (u.queue urgent).length < capacity urgent) (hx : x ∈ u.set sc) (hk : x.event.kind.urgent = urgent)
    (hm : u.masked x.event.kind = false)
    (hold : ∀ sc', ∀ y ∈ u.set sc', y.event.kind.urgent = urgent → u.masked y.event.kind = false → (sc', y) ≠ (sc, x) →
      x.order < y.order ∨ (x.order = y.order ∧ (sc < sc' ∨ (sc = sc' ∧ x.event.kind.code < y.event.kind.code)))) :
    u.judge urgent = ((u.setQueue urgent (u.queue urgent ++ [{ scope := sc, event := x.event, count := x.count }])).removeKind sc
      x.event.kind).judge urgent := by
  refine judge_logs ho hroom (oldest_eq_of_older _ ((mem_candidates u urgent sc x).mpr ⟨hx, hk, hm⟩) fun q hq hne => ?_)
  obtain ⟨hy, hyu, hym⟩ := (mem_candidates u urgent q.1 q.2).mp hq
  exact (older_iff (sc, x) q).mpr (hold q.1 q.2 hy hyu hym hne)

/-! ## Removal and entry -/

@[simp] theorem removeKind_masks (u : NoticeUnit) (sc : Scope) (k : EventKind) : (u.removeKind sc k).masks = u.masks :=
  (removeKind_settings u sc k).masks

theorem removeKind_counter (u : NoticeUnit) (sc : Scope) (k : EventKind) :
    ((∀ sc', (u.removeKind sc k).set sc' = []) → (u.removeKind sc k).counter = 0) ∧
    ((∃ sc', (u.removeKind sc k).set sc' ≠ []) → (u.removeKind sc k).counter = u.counter) := by
  have h := settleCounter_counter (u.withSet sc ((u.set sc).filter fun x => x.event.kind ≠ k))
  rw [removeKind_eq]
  simp only [settleCounter_set]
  exact h

/-- An event folded into the one entry of its kind (R159). -/
theorem enter_folds_one {u : NoticeUnit} {sc : Scope} {e : Event} {l r : List Entry} {x : Entry} (hs : u.set sc = l ++ x :: r)
    (hx : x.event.kind = e.kind) (ho : ∀ y ∈ l ++ r, y.event.kind ≠ e.kind) :
    u.enter sc e = u.withSet sc (l ++ { event := e, count := min 255 (x.count + 1), order := x.order } :: r) := by
  have hid : ∀ zs : List Entry, (∀ y ∈ zs, y.event.kind ≠ e.kind) → zs.map (fun x =>
      if x.event.kind = e.kind then { x with event := e, count := satAdd Config.max8 x.count 1 } else x) = zs := fun zs hz =>
    (List.map_congr_left fun y hy => if_neg (hz y hy)).trans (List.map_id zs)
  rw [enter_fold ⟨x, by simp [hs], hx⟩, hs, List.map_append, List.map_cons, if_pos hx,
    hid l fun y hy => ho y (List.mem_append_left r hy), hid r fun y hy => ho y (List.mem_append_right l hy)]
  rfl

end NoticeUnit

/-- Settles O42. -/
theorem eventsAreFoldedOrEnteredAndLogged : Obligations.EventsAreFoldedOrEnteredAndLogged := by
  refine ⟨fun e => by cases e <;> rfl, fun k => by cases k <;> exact ⟨rfl, rfl⟩, fun b e s => ⟨rfl, rfl, rfl⟩,
    fun u q => ⟨rfl, rfl, rfl, rfl⟩, fun u sc k => ⟨u.removeKind sc k, rfl, by simp, fun sc' h => u.removeKind_set_other k h,
      (u.removeKind_counter sc k).1, (u.removeKind_counter sc k).2, by simp, by simp, by simp, (removeKind_settings u sc k).showMasked,
      (removeKind_settings u sc k).output⟩,
    fun u sc e => rfl, fun u sc e h => ?_, fun u sc e l r x hs hx ho => ?_, fun u sc sc' e h => NoticeUnit.enter_set_other u e h,
    fun u urgent h => NoticeUnit.judge_idle (by rwa [NoticeUnit.capacity_eq]), fun u urgent ho hroom sc x hx hk hm hold =>
      NoticeUnit.judge_logs_older ho (by rwa [NoticeUnit.capacity_eq]) hx hk hm hold⟩
  · rw [NoticeUnit.enter_new h]
    exact ⟨NoticeUnit.set_withSet _ _ _, rfl⟩
  · rw [NoticeUnit.enter_folds_one hs hx ho]
    exact ⟨NoticeUnit.set_withSet _ _ _, rfl⟩

/-! ## Pending sets read (R165) -/

/-- Whether an entry goes before another in the list of one set. -/
def Entry.before (x y : Entry) : Bool := NoticeUnit.older (0, x) (0, y)

theorem insertByAge_eq (x : Entry) (ys : List Entry) : insertByAge x ys = ys.orderedInsert (fun a b => a.before b = true) x := by
  induction ys with
  | nil => rfl
  | cons y ys ih => rw [insertByAge, List.orderedInsert, ih, Entry.before]

/-- A set's entries by age are the library's insertion sort. -/
theorem byAge_eq (xs : List Entry) : byAge xs = xs.insertionSort (fun a b => a.before b = true) := by
  induction xs with
  | nil => rfl
  | cons x xs ih => rw [byAge, insertByAge_eq, ih, List.insertionSort_cons]

theorem byAge_perm (xs : List Entry) : (byAge xs).Perm xs := byAge_eq xs ▸ List.perm_insertionSort _ xs

theorem order_le_of_before {x y : Entry} (h : x.before y = true) : x.order ≤ y.order := by
  have := (NoticeUnit.older_iff (0, x) (0, y)).mp h
  dsimp only at this
  omega

theorem order_le_of_not_before {x y : Entry} (h : x.before y = false) : y.order ≤ x.order := by
  have := (NoticeUnit.older_iff (0, x) (0, y)).not.mp (Bool.eq_false_iff.mp h)
  dsimp only at this
  omega

theorem insertByAge_sorted (x : Entry) (ys : List Entry) (h : ys.Pairwise fun a b => a.order ≤ b.order) :
    (insertByAge x ys).Pairwise fun a b => a.order ≤ b.order := by
  induction ys with
  | nil => exact List.pairwise_singleton _ x
  | cons y ys ih =>
    obtain ⟨hy, hys⟩ := List.pairwise_cons.mp h
    unfold insertByAge
    split
    · next hxy =>
      have hle := order_le_of_before hxy
      exact List.pairwise_cons.mpr ⟨fun z hz => (List.mem_cons.mp hz).elim (fun e => e ▸ hle) fun hz => hle.trans (hy z hz), h⟩
    · next hxy =>
      have hle : y.order ≤ x.order := order_le_of_not_before (Bool.eq_false_iff.mpr hxy)
      refine List.pairwise_cons.mpr ⟨fun z hz => ?_, ih hys⟩
      rw [insertByAge_eq, List.mem_orderedInsert] at hz
      exact hz.elim (fun e => e ▸ hle) (hy z)

theorem byAge_sorted (xs : List Entry) : (byAge xs).Pairwise fun a b => a.order ≤ b.order := by
  induction xs with
  | nil => exact List.Pairwise.nil
  | cons x xs ih => exact insertByAge_sorted x (byAge xs) ih

theorem answerPendingRead_scope {x : Byte} {sc : Scope} (h : x.toNat = sc.val) (s : State) : answerPendingRead x s =
    (s, { result := .ok, prior := false,
          limited := (s.notices.listed sc).any fun x => decide (x.count = 255 ∨ x.order = 4294967295),
          fields := [flag s.notices.output, byte s.notices.urgent.length, byte s.notices.routine.length,
              byte ((s.notices.set sc).length - (s.notices.listed sc).length), byte (s.notices.listed sc).length] ++
            (s.notices.listed sc).flatMap fun x => [byte x.event.kind.code, byte x.count] ++ bytes4 x.order ++
              [flag (s.notices.masked x.event.kind)] ++ x.event.bytes }) := by
  have hlim : (fun x : Entry => x.count == Config.max8 || x.order == Config.max32) =
      fun x => decide (x.count = 255 ∨ x.order = 4294967295) := by
    funext x
    rw [Bool.decide_or]
    rfl
  simp only [answerPendingRead, (scope?_eq_some_iff x sc).mpr h, hlim]
  rfl

/-! ## Pending sets cleared (R166) -/

namespace NoticeUnit

/-- What PENDING_CLEAR leaves of a set: all but the listed kinds that are masked. -/
def uncleared (u : NoticeUnit) (sc : Scope) (ks : List EventKind) : List Entry :=
  (u.set sc).filter fun x => !(decide (x.event.kind ∈ ks) && u.masked x.event.kind)

theorem clearKinds_eq_ite (u : NoticeUnit) (sc : Scope) (ks : List EventKind) : u.clearKinds sc ks =
    if (u.uncleared sc ks).length = (u.set sc).length then u else (u.withSet sc (u.uncleared sc ks)).settleCounter := by
  simp only [clearKinds, uncleared, List.contains_eq_mem]
  rfl

theorem uncleared_eq_self {u : NoticeUnit} {sc : Scope} {ks : List EventKind} (h : (u.uncleared sc ks).length = (u.set sc).length) :
    u.uncleared sc ks = u.set sc := List.filter_sublist.eq_of_length h

theorem clearKinds_set (u : NoticeUnit) (sc : Scope) (ks : List EventKind) : (u.clearKinds sc ks).set sc = u.uncleared sc ks := by
  rw [clearKinds_eq_ite]
  split
  · next h => exact (uncleared_eq_self h).symm
  · rw [settleCounter_set, set_withSet]

theorem clearKinds_set_other (u : NoticeUnit) {sc sc' : Scope} (ks : List EventKind) (h : sc' ≠ sc) :
    (u.clearKinds sc ks).set sc' = u.set sc' := by
  rw [clearKinds_eq_ite]
  split
  · rfl
  · rw [settleCounter_set, set_withSet_other _ _ h]

/-- A clearing leaves the queues and the settings. -/
theorem clearKinds_leaves (u : NoticeUnit) (sc : Scope) (ks : List EventKind) :
    (u.clearKinds sc ks).urgent = u.urgent ∧ (u.clearKinds sc ks).routine = u.routine ∧ SameSettings u (u.clearKinds sc ks) := by
  rw [clearKinds_eq_ite]
  split
  · exact ⟨rfl, rfl, .refl u⟩
  · exact ⟨settleCounter_urgent _, settleCounter_routine _,
      SameSettings.trans (v := u.withSet sc (u.uncleared sc ks)) ⟨rfl, rfl, rfl⟩ (settleCounter_settings _)⟩

/-- The order counter returns to 0 when a clearing empties the last of the sets (R158). -/
theorem clearKinds_counter (u : NoticeUnit) (sc : Scope) (ks : List EventKind) : (u.clearKinds sc ks).counter =
    if (u.uncleared sc ks).length < (u.set sc).length ∧ (∀ sc', (u.clearKinds sc ks).set sc' = []) then 0 else u.counter := by
  have hle : (u.uncleared sc ks).length ≤ (u.set sc).length := List.length_filter_le _ _
  rw [clearKinds_eq_ite]
  by_cases h : (u.uncleared sc ks).length = (u.set sc).length
  · rw [if_pos h, if_neg fun hc => absurd h (by omega)]
  · obtain ⟨hzero, hkept⟩ := settleCounter_counter (u.withSet sc (u.uncleared sc ks))
    rw [if_neg h]
    by_cases hall : ∀ sc', (u.withSet sc (u.uncleared sc ks)).set sc' = []
    · rw [hzero hall, if_pos ⟨by omega, fun sc' => by rw [settleCounter_set, hall]⟩]
    · rw [hkept (not_forall.mp hall), if_neg fun hc => hall fun sc' => by rw [← settleCounter_set, hc.2]]
      rfl

end NoticeUnit

theorem belongs_iff (k : EventKind) (sc : Scope) : k.belongs sc = true ↔ (k.yard = true ↔ sc = 0) := by
  rw [EventKind.belongs, beq_iff_eq, Bool.eq_iff_iff, beq_iff_eq]

theorem answerPendingClear_clears {x : Byte} {sc : Scope} {kinds : List Byte} {ks : List EventKind} (hx : x.toNat = sc.val)
    (hk : kinds.map eventKind? = ks.map some) (h1 : 1 ≤ kinds.length) (h14 : kinds.length ≤ 14)
    (hb : ∀ e ∈ ks, e.yard = true ↔ sc = 0) (s : State) : answerPendingClear x kinds s =
      (s.setNotices (s.notices.clearKinds sc ks), .ok [byte ((s.notices.set sc).length - ((s.notices.clearKinds sc ks).set sc).length),
        byte ((s.notices.clearKinds sc ks).set sc).length]) := by
  have hlen : kinds.length = ks.length := by simpa using congrArg List.length hk
  have hall : ks.all (fun k => k.belongs sc) = true := List.all_eq_true.mpr fun e he => (belongs_iff e sc).mpr (hb e he)
  simp only [answerPendingClear, (scope?_eq_some_iff x sc).mpr hx, (all?_eq_some_iff _ _ _).mpr hk]
  rw [if_neg (by rw [hall]; simp only [Bool.true_eq_false, or_false]; omega)]

theorem answerPendingClear_refused {x : Byte} {kinds : List Byte} (h : 6 < x.toNat ∨ kinds.length = 0 ∨ 14 < kinds.length ∨
    (∃ k ∈ kinds, eventKind? k = none) ∨ (∃ k ∈ kinds, ∃ e, eventKind? k = some e ∧ (e.yard = true ↔ x.toNat ≠ 0))) (s : State) :
    answerPendingClear x kinds s = (s, .refuse .badValue) := by
  unfold answerPendingClear
  split
  · next sc ks hsc hks =>
    have hx := (scope?_eq_some_iff x sc).mp hsc
    have hmap := (all?_eq_some_iff _ _ _).mp hks
    have hlen : kinds.length = ks.length := by simpa using congrArg List.length hmap
    refine if_pos ?_
    rcases h with h | h | h | ⟨k, hk, hn⟩ | ⟨k, hk, e, he, hy⟩
    · omega
    · exact .inl (by omega)
    · exact .inr (.inl (by omega))
    · have hin : none ∈ ks.map some := hmap ▸ hn ▸ List.mem_map_of_mem hk
      simp at hin
    · have hin : some e ∈ ks.map some := hmap ▸ he ▸ List.mem_map_of_mem hk
      have hbad : ¬ e.belongs sc = true := by
        have h0 : x.toNat ≠ 0 ↔ sc ≠ 0 := by rw [hx, ne_eq, ne_eq, Fin.ext_iff]; rfl
        rw [belongs_iff, hy, h0]
        tauto
      refine .inr (.inr (Bool.eq_false_iff.mpr fun hall => hbad (List.all_eq_true.mp hall e ?_)))
      simpa using hin
  · rfl

/-- Settles O41. -/
theorem pendingSetsAreReadAndCleared : Obligations.PendingSetsAreReadAndCleared := by
  refine ⟨fun l tag x s hf => ⟨fun hx => ?_, fun sc hx => ⟨s.notices.listed sc, byAge_perm _, byAge_sorted _, ?_⟩⟩,
    fun l tag x kinds s hf => ⟨fun h => ?_, fun sc ks hx hk h1 h14 hb => ?_⟩⟩
  · exact exec_answer (r := .pendingRead x) rfl hf (.inr rfl) (by
      simp only [answer, answerPendingRead, (scope?_eq_none_iff x).mpr hx])
  · exact exec_answer (r := .pendingRead x) rfl hf (.inr rfl) (answerPendingRead_scope hx s)
  · exact exec_answer (r := .pendingClear x kinds) rfl hf (.inr rfl) (answerPendingClear_refused h s)
  · obtain ⟨hu, hr, hs⟩ := s.notices.clearKinds_leaves sc ks
    refine ⟨s.notices.clearKinds sc ks, s.notices.clearKinds_set sc ks, fun sc' h => s.notices.clearKinds_set_other ks h, hu, hr,
      hs.masks, hs.showMasked, hs.output, ?_, ?_⟩
    · rw [NoticeUnit.clearKinds_set]
      exact s.notices.clearKinds_counter sc ks
    · exact exec_answer (r := .pendingClear x kinds) rfl hf (.inr rfl) (answerPendingClear_clears hx hk h1 h14 hb s)

end Sys2Proof.Machine
end

section
/-! PROOFS. RESTART (R182), and the settings, the loss and the return of a utility (R117 to R127). -/

namespace Sys2Proof.Machine

/-! ## RESTART's one event -/

namespace NoticeUnit

/-- A unit with empty sets, queues and counter. -/
def Empty (u : NoticeUnit) : Prop := (∀ sc, u.set sc = []) ∧ u.urgent = [] ∧ u.routine = [] ∧ u.counter = 0

/-- The first event entered in an empty unit (R159). -/
theorem enter_empty {u : NoticeUnit} (hu : u.Empty) (sc : Scope) (e : Event) :
    (u.enter sc e).set sc = [{ event := e, count := 1, order := 0 }] ∧ (∀ sc', sc' ≠ sc → (u.enter sc e).set sc' = []) ∧
      (u.enter sc e).counter = 1 ∧ ∀ urgent, (u.enter sc e).queue urgent = [] := by
  obtain ⟨hsets, hurgent, hroutine, hcounter⟩ := hu
  refine ⟨?_, fun sc' h => by rw [enter_set_other u e h, hsets], ?_, fun urgent => ?_⟩
  · rw [enter_new (by simp [hsets]), hsets, hcounter]
    exact set_withSet _ _ _
  · rw [enter_new (by simp [hsets]), hcounter]
    rfl
  · cases urgent
    · exact (enter_routine u sc e).trans hroutine
    · exact (enter_urgent u sc e).trans hurgent

theorem masked_enter (u : NoticeUnit) (sc : Scope) (e : Event) (k : EventKind) : (u.enter sc e).masked k = u.masked k := by
  rw [masked, (enter_settings u sc e).masks]
  rfl

/-- The first event raised in an empty unit while its kind is not logged stands in its set with order number 0 (R158, R159). -/
theorem raise_empty_kept {u : NoticeUnit} (hu : u.Empty) (sc : Scope) {e : Event} (h : u.output = false ∨ u.masked e.kind = true) :
    u.raise sc e = u.enter sc e := by
  obtain ⟨hset, hother, -, -⟩ := enter_empty hu sc e
  refine judge_idle (h.imp ((enter_settings u sc e).output.trans ·) fun hm => .inr fun sc' x hx _ => ?_)
  by_cases hsc : sc' = sc
  · rw [hsc, hset, List.mem_singleton] at hx
    rw [hx, masked_enter, hm]
  · simp [hother sc' hsc] at hx

/-- The first event raised in an empty unit that logs its kind goes to its queue, and the unit is otherwise empty again. -/
theorem raise_empty_logged {u : NoticeUnit} (hu : u.Empty) (sc : Scope) {e : Event} (ho : u.output = true) (hm : u.masked e.kind = false) :
    (∀ sc', (u.raise sc e).set sc' = []) ∧ (u.raise sc e).counter = 0 ∧
      ∀ urgent, (u.raise sc e).queue urgent = if urgent = e.kind.urgent then [{ scope := sc, event := e, count := 1 }] else [] := by
  obtain ⟨hset, hother, -, hqueue⟩ := enter_empty hu sc e
  obtain ⟨v, hv⟩ : ∃ v, v = ((u.enter sc e).setQueue e.kind.urgent [{ scope := sc, event := e, count := 1 }]).removeKind sc e.kind :=
    ⟨_, rfl⟩
  have hroom : ((u.enter sc e).queue e.kind.urgent).length < capacity e.kind.urgent := by
    rw [hqueue, capacity_eq]
    split <;> decide
  have hempty : ∀ sc', v.set sc' = [] := fun sc' => by
    by_cases hsc : sc' = sc
    · rw [hv, hsc, removeKind_set, set_setQueue, hset]
      simp
    · rw [hv, removeKind_set_other _ _ hsc, set_setQueue, hother sc' hsc]
  have hlogs := judge_logs_older (u := u.enter sc e) (x := { event := e, count := 1, order := 0 })
    ((enter_settings u sc e).output.trans ho) hroom (by rw [hset]; exact List.mem_singleton_self _) rfl ((masked_enter u sc e _).trans hm)
    (fun sc' y hy _ _ hne => by
      by_cases hsc : sc' = sc
      · rw [hsc, hset, List.mem_singleton] at hy
        exact absurd (by rw [hy, hsc]) hne
      · simp [hother sc' hsc] at hy)
  have hraise : u.raise sc e = v := by
    rw [hqueue, List.nil_append] at hlogs
    refine hlogs.trans ?_
    rw [← hv, judge_idle (.inr (.inr fun sc' x hx => by simp [hempty sc'] at hx))]
  rw [hraise]
  refine ⟨hempty, ?_, fun urgent => ?_⟩
  · rw [hv] at hempty ⊢
    exact (removeKind_counter _ sc e.kind).1 hempty
  · rw [hv, queue_removeKind]
    by_cases hk : urgent = e.kind.urgent
    · rw [if_pos hk, hk, queue_setQueue]
    · rw [if_neg hk]
      have hother := hqueue urgent
      cases urgent <;> cases hu : e.kind.urgent <;> simp_all [queue, setQueue]

end NoticeUnit

/-! ## The machine after RESTART -/

theorem empty_restarted (s : State) : s.restarted.notices.Empty :=
  ⟨fun sc => by simp [NoticeUnit.set, State.restarted], rfl, rfl, rfl⟩

theorem port_restarted (s : State) (b : Bay) : s.restarted.port b = (s.port b).restart := by
  simp [State.port, State.restarted]

theorem port_restart (p : Port) : p.restart.partway = none ∧
    (p.sending = none → p.restart.sending = some Orders.reset ∧ p.restart.due = p.due) ∧
    (∀ o, p.sending = some o → p.restart.sending = some o ∧ p.restart.due = true) := by
  cases h : p.sending <;> simp [Port.restart, Port.change, h]

theorem util_restarted (s : State) (u : UtilId) : s.restarted.util u =
    { s.util u with fault := s.pins.faults[utilIx u], grants := [], claims := [], counter := 0, returning := none } := by
  simp [State.util, State.restarted, Util.restart]

theorem lane_restarted (s : State) (b : Bay) : s.restarted.lane b = Lane.reset (s.marks[b.val + 1]'(by omega)) := by
  simp [State.lane, State.restarted, State.restartLane]

/-- RESTART's event, raised in the emptied notice unit (R182). -/
def State.restartNotices (s : State) : NoticeUnit :=
  if s.mode = .dormant then s.restarted.notices else s.restarted.notices.raise 0 (.modeChange s.mode .dormant .restart)

theorem answerRestart_eq (s : State) : answerRestart s = (s.restarted.setNotices s.restartNotices, .ok []) := by
  unfold answerRestart State.restartNotices
  split <;> rfl

theorem restartNotices_settings (s : State) : SameSettings s.notices s.restartNotices := by
  unfold State.restartNotices
  split
  · exact ⟨rfl, rfl, rfl⟩
  · exact SameSettings.trans (v := s.restarted.notices) ⟨rfl, rfl, rfl⟩ (raise_settings _ _ _)

theorem restartNotices_dormant {s : State} (h : s.mode = .dormant) : s.restartNotices = s.restarted.notices := if_pos h

/-- RESTART's event while its kind is not logged. -/
theorem restartNotices_kept {s : State} (h : s.mode ≠ .dormant) (hm : s.notices.output = false ∨ s.notices.masked .modeChange = true) :
    s.restartNotices = s.restarted.notices.enter 0 (.modeChange s.mode .dormant .restart) :=
  (if_neg h).trans (NoticeUnit.raise_empty_kept (empty_restarted s) 0 hm)

/-- Nothing but MODE_CHANGE stands in the sets and queues RESTART emptied. -/
theorem restartNotices_bays (s : State) : (∀ b : Bay, s.restartNotices.set (bayScope b) = []) ∧ s.restartNotices.routine = [] := by
  have hempty := empty_restarted s
  by_cases h : s.mode = .dormant
  · rw [restartNotices_dormant h]
    exact ⟨fun b => hempty.1 _, hempty.2.2.1⟩
  · by_cases hm : s.notices.output = false ∨ s.notices.masked .modeChange = true
    · obtain ⟨-, hother, -, hqueue⟩ := NoticeUnit.enter_empty hempty 0 (.modeChange s.mode .dormant .restart)
      rw [restartNotices_kept h hm]
      exact ⟨fun b => hother _ (Fin.ne_of_val_ne (Nat.succ_ne_zero b.val)), hqueue false⟩
    · obtain ⟨ho, hm⟩ := not_or.mp hm
      obtain ⟨hsets, -, hqueue⟩ := NoticeUnit.raise_empty_logged hempty 0 (e := .modeChange s.mode .dormant .restart)
        ((Bool.not_eq_false _).mp ho) ((Bool.not_eq_true _).mp hm)
      unfold State.restartNotices
      rw [if_neg h]
      exact ⟨fun b => hsets _, hqueue false⟩

/-- Settles O27. -/
theorem restartReturnsEveryBlockAndKeepsTheTables : Obligations.RestartReturnsEveryBlockAndKeepsTheTables := by
  intro tag s hf
  obtain ⟨hmasks, hshow, hout⟩ := restartNotices_settings s
  obtain ⟨hbays, hroutine⟩ := restartNotices_bays s
  refine ⟨s.restarted.setNotices s.restartNotices, exec_answer (r := .restart) rfl hf (.inl rfl) (answerRestart_eq s), rfl, rfl, rfl,
    fun b => ?_, lane_restarted s, fun b z => ?_, fun b => ?_, fun i => ?_, rfl, rfl, rfl, rfl, util_restarted s, rfl, rfl, rfl, rfl, rfl,
    rfl, rfl, rfl, rfl, rfl, rfl, fun b => ?_, hmasks, hshow, hout, hbays, hroutine, fun hd => ?_, fun hd hm => ?_, fun hd ho hm => ?_,
    fun v => ?_, rfl⟩
  · simp [State.visit, State.setNotices, State.restarted]
  · simp [State.residue, State.setNotices, State.restarted, ResidueMap.clear]
  · simp [State.scan, State.setNotices, State.restarted]
  · simp [StepStore.pinned, State.setNotices, State.restarted]
  · exact (port_restarted s b).symm ▸ port_restart (s.port b)
  · obtain ⟨hsets, hurgent, -, hcounter⟩ := empty_restarted s
    rw [State.setNotices, restartNotices_dormant hd]
    exact ⟨hsets 0, hurgent, hcounter⟩
  · obtain ⟨hset, -, hcounter, hqueue⟩ := NoticeUnit.enter_empty (empty_restarted s) 0 (.modeChange s.mode .dormant .restart)
    rw [State.setNotices, restartNotices_kept hd hm]
    exact ⟨hset, hqueue true, hcounter⟩
  · obtain ⟨hsets, hcounter, hqueue⟩ := NoticeUnit.raise_empty_logged (empty_restarted s) 0
      (e := .modeChange s.mode .dormant .restart) ho hm
    rw [State.setNotices, State.restartNotices, if_neg hd]
    exact ⟨hsets 0, hqueue true, hcounter⟩
  · simp [Lane.reset, State.lane, State.reset]

/-! ## Utilities (R117 to R127) -/

theorem inService_iff (x : Util) : x.inService = true ↔ x.offline = false ∧ x.fault = false := by
  simp [Util.inService]

theorem inService_eq_false_iff (x : Util) : x.inService = false ↔ x.offline = true ∨ x.fault = true := by
  rw [Bool.eq_false_iff, ne_eq, inService_iff]
  grind

section
variable {s : State} {u : UtilId} {x : Util} (plantFault : Bool)

/-- A record stored that leaves the service state as it is (R117). -/
theorem storeService_stays (h : x.inService = (s.util u).inService) : s.storeService u x plantFault = (s.setUtil u x, []) := by
  unfold State.storeService
  cases hs : (s.util u).inService <;> simp [h, hs]

/-- A record stored that takes the utility out of service (R123). -/
theorem storeService_loses (h : (s.util u).inService = true) (hx : x.inService = false) : s.storeService u x plantFault =
    ((x.grants.foldl (fun q c => q.suspend c.lane) (s.setUtil u { x with
        grants := [], claims := x.grants.foldl (fun q c => insertClaim { c with kept := true } q) x.claims })).raiseYard
      (.utilityLost u plantFault x.grants.length), []) := by
  simp only [State.storeService, h, hx, State.loseUtility, Util.lose, util_setUtil, setUtil_setUtil]

/-- A record stored that brings the utility back to service (R125). -/
theorem storeService_returns (h : (s.util u).inService = false) (hx : x.inService = true) :
    s.storeService u x plantFault = (s.setUtil u { x with returning := some 0 }, [.judge u, .back u]) := by
  simp only [State.storeService, h, hx, setUtil_setUtil]

end

/-! ## Fault lines (R118) -/

theorem putFault_of_storeService {s t : State} {u : UtilId} {v : Bool} {ts : List Task}
    (h : s.storeService u { s.util u with fault := v } true = (t, ts)) : s.putFault u v = t.settle ts := by
  simp only [State.putFault, h]

/-- Settles O53. -/
theorem faultLinesTakeAUtilityOutAndBringItBack : Obligations.FaultLinesTakeAUtilityOutAndBringItBack := by
  refine ⟨fun u s p hs hp => ?_, fun u s p hs hp => ?_, fun u n s h => ?_, fun b s => ⟨fun hw hk => ?_, fun h => ?_⟩⟩
  · subst hp
    refine ⟨fun ho hf => congrArg Host.Outcome.next (live_eq (s := s.faultPin u true) (f := fun t => t.faultRise u) hs ?_),
      fun h => congrArg Host.Outcome.next (live_eq (s := s.faultPin u true) (f := fun t => t.faultRise u) hs ?_)⟩
    · have hin : ((s.faultPin u true).util u).inService = true := (inService_iff (s.util u)).mpr ⟨ho, hf⟩
      exact (putFault_of_storeService (storeService_loses true hin ((inService_eq_false_iff _).mpr (.inr rfl)))).trans (settle_nil _)
    · have hout : ((s.faultPin u true).util u).inService = false := (inService_eq_false_iff (s.util u)).mpr h
      exact (putFault_of_storeService (storeService_stays true (((inService_eq_false_iff _).mpr (.inr rfl)).trans hout.symm))).trans
        (settle_nil _)
  · subst hp
    refine ⟨fun ho hf => congrArg Host.Outcome.next (live_eq (s := s.faultPin u false) (f := fun t => t.faultFall u) hs ?_),
      fun h => congrArg Host.Outcome.next (live_eq (s := s.faultPin u false) (f := fun t => t.faultFall u) hs ?_)⟩
    · have hout : ((s.faultPin u false).util u).inService = false := (inService_eq_false_iff (s.util u)).mpr (.inr hf)
      exact putFault_of_storeService (storeService_returns true hout ((inService_iff _).mpr ⟨ho, rfl⟩))
    · have hsame : ({ s.util u with fault := false } : Util).inService = (s.util u).inService := by
        rcases h with h | h
        · exact ((inService_eq_false_iff { s.util u with fault := false }).mpr (.inl h)).trans
            ((inService_eq_false_iff (s.util u)).mpr (.inl h)).symm
        · rw [← h]
      exact (putFault_of_storeService (s := s.faultPin u false) (storeService_stays true hsame)).trans (settle_nil _)
  · simp only [act, actBack, h]
  · simp [State.suspend, State.stepOf, hw, hk]
  · have hrepeat : ((s.lane b).service == some .wash && (s.stepOf b).kind == .flush) = false := by
      rw [Bool.and_eq_false_iff, beq_eq_false_iff_ne, beq_eq_false_iff_ne]
      exact h
    simp only [State.suspend, hrepeat]
    rfl

/-! ## SET_UTILITY (R127) -/

section
variable {ub capacity off cargo : Byte} {u : UtilId} {o : Bool} {g : Option Cargo} {s : State}

theorem answerSetUtility_unread (h : 6 < ub.toNat ∨ 1 < off.toNat ∨ (15 < cargo.toNat ∧ cargo.toNat ≠ 255)) (s : State) :
    answerSetUtility ub capacity off cargo s = (s, .refuse .badValue) := by
  unfold answerSetUtility
  split
  · next u o c hu ho hc =>
    rcases h with h | h | h
    · rw [(util?_eq_none_iff ub).mpr h] at hu
      cases hu
    · rw [(bool?_eq_none_iff off).mpr h] at ho
      cases ho
    · rw [(cargoOrNone?_eq_none_iff cargo).mpr h] at hc
      cases hc
  · rfl

/-- SET_UTILITY with its three fields read: the checks in R127's order. -/
theorem answerSetUtility_eq (hu : util? ub = some u) (ho : bool? off = some o) (hg : cargoOrNone? cargo = some g) (s : State) :
    answerSetUtility ub capacity off cargo s =
      if 6 < capacity.toNat ∨ (isFillLine u = false ∧ g ≠ none) then (s, .refuse .badValue)
      else if isFillLine u = true ∧ g ≠ (s.util u).cargo ∧ ((s.util u).grants ≠ [] ∨ (s.util u).claims ≠ []) then
        (s, .refuse .wrongState)
      else (s.setUtility u capacity.toNat o g,
        { result := .ok, fields := (s.setUtility u capacity.toNat o g).utilBytes u,
          limited := ((s.setUtility u capacity.toNat o g).util u).counter == 4294967295, prior := false }) := by
  have hfixed : (s.util u).classFixed u g = true ↔
      isFillLine u = true ∧ g ≠ (s.util u).cargo ∧ ((s.util u).grants ≠ [] ∨ (s.util u).claims ≠ []) := by
    simp only [Util.classFixed, Bool.and_eq_true, Bool.not_eq_true', beq_eq_false_iff_ne, ne_eq, Bool.and_eq_false_iff, and_assoc,
      List.isEmpty_eq_false_iff]
  simp only [answerSetUtility, hu, ho, hg, ite_or, Option.isSome_iff_ne_none, hfixed]
  rfl

/-- The settings of an accepted SET_UTILITY stored in a utility's record. -/
def Util.withSettings (x : Util) (capacity : Nat) (offline : Bool) (cargo : Option Cargo) : Util :=
  { x with cargo := cargo, capacity := capacity, offline := offline }

/-- Settings that leave the service state, and raise no capacity in service, are stored and nothing follows. -/
theorem setUtility_stays {capacity : Nat} (h : ((s.util u).withSettings capacity o g).inService = (s.util u).inService)
    (hc : (s.util u).inService = true → capacity ≤ (s.util u).capacity) :
    s.setUtility u capacity o g = s.setUtil u ((s.util u).withSettings capacity o g) := by
  have hraised : ((s.util u).inService && ((s.util u).withSettings capacity o g).inService && decide ((s.util u).capacity < capacity)) =
      false := by
    rw [h, Bool.and_self, Bool.and_eq_false_iff, decide_eq_false_iff_not]
    cases hin : (s.util u).inService
    · exact .inl rfl
    · exact .inr (by have := hc hin; omega)
  simp only [State.setUtility]
  rw [show ({ s.util u with cargo := g, capacity := capacity, offline := o } : Util) = (s.util u).withSettings capacity o g from rfl,
    storeService_stays false h, hraised]
  exact settle_nil _

/-- A capacity raised in service has the queue judged (R122). -/
theorem setUtility_raises {capacity : Nat} (hin : (s.util u).inService = true)
    (hy : ((s.util u).withSettings capacity o g).inService = true) (hc : (s.util u).capacity < capacity) :
    s.setUtility u capacity o g = (s.setUtil u ((s.util u).withSettings capacity o g)).settle [.judge u] := by
  simp only [State.setUtility]
  rw [show ({ s.util u with cargo := g, capacity := capacity, offline := o } : Util) = (s.util u).withSettings capacity o g from rfl,
    storeService_stays false (hy.trans hin.symm), hin, hy, decide_eq_true hc]
  rfl

/-- A change of the service state: what it brings about follows, and no capacity is judged apart (R123, R125). -/
theorem setUtility_changes {capacity : Nat} {t : State} {ts : List Task}
    (h : ((s.util u).withSettings capacity o g).inService = !(s.util u).inService)
    (hs : s.storeService u ((s.util u).withSettings capacity o g) false = (t, ts)) : s.setUtility u capacity o g = t.settle ts := by
  simp only [State.setUtility]
  rw [show ({ s.util u with cargo := g, capacity := capacity, offline := o } : Util) = (s.util u).withSettings capacity o g from rfl, hs, h]
  cases (s.util u).inService <;> rfl

end

/-- Settles O23. -/
theorem setUtilityStoresSettingsOrRefuses : Obligations.SetUtilityStoresSettingsOrRefuses := by
  refine ⟨fun tag ub capacity off cargo s hf h => ?_, fun u => by cases u <;> rfl, fun x => ?_,
    fun tag ub capacity off cargo u o g s hf hu ho hg => ?_⟩
  · exact exec_answer (r := .setUtility ub capacity off cargo) rfl hf (.inl rfl) (answerSetUtility_unread h s)
  · rw [Bool.eq_iff_iff, inService_iff, decide_eq_true_iff]
  have heq := answerSetUtility_eq (capacity := capacity) hu ho hg s
  have hexec {t : State} {x : Reply} (h : answerSetUtility ub capacity off cargo s = (t, x)) :
      exec (.setUtility .office tag ub capacity off cargo) s = .next (t.answered .office 0x18 tag x) :=
    exec_answer (r := .setUtility ub capacity off cargo) rfl hf (.inl rfl) h
  refine ⟨fun h => hexec (heq.trans (if_pos (.inl h))), fun _ hl hc => hexec (heq.trans (if_pos (.inr ⟨hl, hc⟩))),
    fun h6 hl hc hu => hexec (heq.trans ?_), fun h6 hfill hfixed => ⟨s.setUtility u capacity.toNat o g, hexec (heq.trans ?_),
      fun h hc => ?_, fun hin h => ?_, fun ho hin => ?_, fun ho hoff hfault => ?_, fun ho hin hc => ?_⟩⟩
  · rw [if_neg (by simp [hl]; omega), if_pos ⟨hl, hc, hu⟩]
  · rw [if_neg, if_neg]
    · rintro ⟨hl, hc, hq⟩
      rcases hfixed with h | h | h
      · simp [h] at hl
      · exact hc h
      · rcases hq with hq | hq
        · exact hq h.1
        · exact hq h.2
    · rintro (h | ⟨hl, hc⟩)
      · omega
      · rcases hfill with h | h
        · simp [h] at hl
        · exact hc h
  · refine setUtility_stays ?_ fun _ => hc
    rcases h with h | h
    · rw [h]
      rfl
    · exact ((inService_eq_false_iff ((s.util u).withSettings _ o g)).mpr (.inr h)).trans
        ((inService_eq_false_iff (s.util u)).mpr (.inr h)).symm
  · refine setUtility_stays (((inService_eq_false_iff ((s.util u).withSettings _ o g)).mpr h).trans hin.symm) fun hin' => ?_
    exact absurd (hin.symm.trans hin') (by decide)
  · have hout : ((s.util u).withSettings capacity.toNat o g).inService = false := (inService_eq_false_iff _).mpr (.inl ho)
    rw [setUtility_changes (hout.trans (by rw [hin]; rfl)) (storeService_loses false hin hout), settle_nil, ho]
    rfl
  · have hout : (s.util u).inService = false := (inService_eq_false_iff _).mpr (.inl hoff)
    have hback : ((s.util u).withSettings capacity.toNat o g).inService = true := (inService_iff _).mpr ⟨ho, hfault⟩
    rw [setUtility_changes (hback.trans (by rw [hout]; rfl)) (storeService_returns false hout hback), ho]
    rfl
  · have hback : ((s.util u).withSettings capacity.toNat o g).inService = true :=
      (inService_iff _).mpr ⟨ho, ((inService_iff _).mp hin).2⟩
    rw [setUtility_raises hin hback hc, ho]
    rfl

end Sys2Proof.Machine
end

section
/-! PROOFS. The front end of the compartment table's requests (R6, R175): the mode, the ranges of the fields, the visit and the index. -/

namespace Sys2Proof.Machine

/-! ## Records -/

theorem isAt_iff (r : Comp) (b : Bay) (k : Nat) : r.isAt b k = true ↔ r.bay = b ∧ r.index = k := by
  rw [Comp.isAt, Bool.and_eq_true, beq_iff_eq, beq_iff_eq]

/-- The record found for a compartment names it. -/
theorem record?_names {s : State} {b : Bay} {k : Nat} {r : Comp} (h : s.record? b k = some r) : r.bay = b ∧ r.index = k :=
  (isAt_iff r b k).mp (List.find?_some (p := fun x : Comp => x.isAt b k) h)

theorem findRecord_noVisit {s : State} {b : Bay} (h : s.visit b = none) (k : Nat) : s.findRecord b k = .error .wrongState := by
  simp only [State.findRecord, h]

theorem findRecord_beyond {s : State} {b : Bay} {k : Nat} {v : Visit} (h : s.visit b = some v) (hk : v.count < k) :
    s.findRecord b k = .error .badValue := by
  simp only [State.findRecord, h, if_pos hk]

theorem findRecord_names {s : State} {b : Bay} {k : Nat} {r : Comp} (h : s.Names b k r) : s.findRecord b k = .ok r := by
  obtain ⟨v, hv, hk, hr⟩ := h
  simp only [State.findRecord, hv, if_neg (Nat.not_lt.mpr hk), hr]

/-! ## The place a request names -/

theorem placed_some_iff (x : Option Bay) (y : Option Nat) (b : Bay) (k : Nat) :
    (x.bind fun b => y.map fun k => (b, k)) = some (b, k) ↔ x = some b ∧ y = some k := by
  cases x <;> cases y <;> simp

theorem placed_none_iff (x : Option Bay) (y : Option Nat) : (x.bind fun b => y.map fun k => (b, k)) = none ↔ x = none ∨ y = none := by
  cases x <;> cases y <;> simp

theorem place_some_cond {p : Prop} [Decidable p] (x : Option Bay) (y : Option Nat) (b : Bay) (k : Nat) :
    (if p then x.bind fun b => y.map fun k => (b, k) else none) = some (b, k) ↔ p ∧ x = some b ∧ y = some k := by
  by_cases h : p
  · rw [if_pos h, placed_some_iff, and_iff_right h]
  · simp [h]

theorem place_none_cond {p : Prop} [Decidable p] (x : Option Bay) (y : Option Nat) :
    (if p then x.bind fun b => y.map fun k => (b, k) else none) = none ↔ ¬ p ∨ x = none ∨ y = none := by
  by_cases h : p
  · rw [if_pos h, placed_none_iff, or_iff_right (not_not.mpr h)]
  · simp [h]

/-! ## Assigning -/

section
variable {bay index head mode last cls new cargo ruling : Byte} {target : BitVec 16} {b : Bay} {k : Nat} {r : Comp} {s : State}

/-- The chain mode an ASSIGN of chain code 0 or 1 carries. -/
def chainOf (mode last : Byte) : Chain := if mode.toNat = 0 then .follow else .bounded (stepIx last)

theorem chain?_eq {mode : Byte} (h : mode.toNat ≤ 1) (last : Byte) : chain? mode last = some (chainOf mode last) := by
  unfold chainOf
  split
  · next h0 => exact (chain?_follow_iff mode last).mpr h0
  · next h0 => exact (chain?_bounded_iff mode last _).mpr ⟨by omega, rfl⟩

theorem answerAssign_unread (hm : s.mode ≠ .dormant) (h : (Request.assign bay index head mode last cls).place? = none) :
    answerAssign bay index head mode last cls s = (s, .refuse .badValue) := by
  have hread := (place_none_cond _ _).mp h
  unfold answerAssign
  rw [if_neg hm]
  split
  · next hb hk hc hn =>
    have hmode : ¬ 1 < mode.toNat := fun hlt => by simp [(chain?_eq_none_iff mode last).mpr hlt] at hc
    obtain ⟨hcls, hlow, hhigh⟩ := (class?_eq_some_iff cls _).mp hn
    rcases hread with h | h | h
    · exact absurd ⟨by omega, by omega, by omega⟩ h
    · simp [hb] at h
    · simp [hk] at h
  · rfl

/-- ASSIGN with its fields in range. -/
theorem answerAssign_placed (hm : s.mode ≠ .dormant) (h : (Request.assign bay index head mode last cls).place? = some (b, k)) :
    answerAssign bay index head mode last cls s = match s.findRecord b k with
      | .error e => (s, .refuse e)
      | .ok r =>
        if r.st = .admitted ∨ r.st = .dirty then
          (s.assign b k { head := stepIx head, chain := chainOf mode last, cls := cls.toNat }, .ok [])
        else (s, .refuse .wrongState) := by
  obtain ⟨⟨hmode, hlow, hhigh⟩, hb, hk⟩ := (place_some_cond _ _ _ _).mp h
  have hcls : class? cls = some cls.toNat := (class?_eq_some_iff cls _).mpr ⟨rfl, hlow, hhigh⟩
  simp only [answerAssign, if_neg hm, hb, hk, chain?_eq hmode last, hcls] <;> cases s.findRecord b k <;> rfl

/-! ## EXTEND -/

theorem answerExtend_unread (hm : s.mode ≠ .dormant) (h : (Request.extend bay index new).place? = none) :
    answerExtend bay index new s = (s, .refuse .badValue) := by
  have hread := (placed_none_iff _ _).mp h
  unfold answerExtend
  rw [if_neg hm]
  split
  · next hb hk => simp [hb, hk] at hread
  · rfl

theorem answerExtend_placed (hm : s.mode ≠ .dormant) (h : (Request.extend bay index new).place? = some (b, k)) :
    answerExtend bay index new s = match s.findRecord b k with
      | .error e => (s, .refuse e)
      | .ok r => match r.lastIndex? with
        | none => (s, .refuse .wrongState)
        | some old => ((s.extend b k (stepIx new)).1, .ok [byte old.val, flag (s.extend b k (stepIx new)).2]) := by
  obtain ⟨hb, hk⟩ := (placed_some_iff _ _ _ _).mp h
  simp only [answerExtend, if_neg hm, hb, hk] <;> cases s.findRecord b k <;> rfl

/-! ## ORDER_FILL and CANCEL_FILL -/

theorem answerOrderFill_unread (hm : s.mode ≠ .dormant) (h : (Request.orderFill bay index cargo target).place? = none) :
    answerOrderFill bay index cargo target s = (s, .refuse .badValue) := by
  have hread := (place_none_cond _ _).mp h
  unfold answerOrderFill
  rw [if_neg hm]
  split
  · next hb hk hc =>
    have hcargo : cargo.toNat ≤ 15 := by have := (cargo?_eq_some_iff cargo _).mp hc; omega
    split
    · rfl
    · next ht =>
      rcases hread with h | h | h
      · exact absurd ⟨hcargo, by omega, by omega⟩ h
      · simp [hb] at h
      · simp [hk] at h
  · rfl

theorem answerOrderFill_placed {c : Cargo} (hm : s.mode ≠ .dormant)
    (h : (Request.orderFill bay index cargo target).place? = some (b, k)) (hc : cargo.toNat = c.val) :
    answerOrderFill bay index cargo target s = match s.findRecord b k with
      | .error e => (s, .refuse e)
      | .ok r =>
        if r.st.mayOrder then s.judgeOrder b r { cargo := c, target := target.toNat } else (s, .refuse .wrongState) := by
  obtain ⟨⟨-, hlow, hhigh⟩, hb, hk⟩ := (place_some_cond _ _ _ _).mp h
  have ht : ¬ (target.toNat = 0 ∨ 20000 < target.toNat) := by omega
  simp only [answerOrderFill, if_neg hm, hb, hk, (cargo?_eq_some_iff cargo c).mpr hc, if_neg ht] <;> cases s.findRecord b k <;> rfl

theorem answerCancelFill_unread (hm : s.mode ≠ .dormant) (h : (Request.cancelFill bay index).place? = none) :
    answerCancelFill bay index s = (s, .refuse .badValue) := by
  have hread := (placed_none_iff _ _).mp h
  unfold answerCancelFill
  rw [if_neg hm]
  split
  · next hb hk => simp [hb, hk] at hread
  · rfl

theorem answerCancelFill_placed (hm : s.mode ≠ .dormant) (h : (Request.cancelFill bay index).place? = some (b, k)) :
    answerCancelFill bay index s = match s.findRecord b k with
      | .error e => (s, .refuse e)
      | .ok r =>
        if r.order.isNone ∨ r.st = .filled then (s, .refuse .wrongState)
        else if r.st = .certified then (s.dropFill b k, .ok [])
        else if r.st = .filling then (s.settle [.endFill b .cancelFill], .ok [])
        else (s.modRecord b k fun x => { x with order := none }, .ok []) := by
  obtain ⟨hb, hk⟩ := (placed_some_iff _ _ _ _).mp h
  simp only [answerCancelFill, if_neg hm, hb, hk] <;> cases s.findRecord b k <;> rfl

/-! ## RULE_REFERRAL -/

theorem ruling?_eq_some_iff (ruling cls : Byte) (rule : Option Nat) : ruling? ruling cls = some rule ↔
    (ruling.toNat = 0 ∧ rule = none) ∨ (ruling.toNat = 1 ∧ rule = some cls.toNat ∧ 1 ≤ cls.toNat ∧ cls.toNat ≤ 7) := by
  unfold ruling?
  split
  · next h =>
    have h1 : ruling.toNat = 1 := by simp [(bool?_eq_some_iff ruling true).mp h]
    cases hc : class? cls with
    | none =>
      have := (class?_eq_none_iff cls).mp hc
      simp [h1]
      omega
    | some n =>
      obtain ⟨rfl, hlow, hhigh⟩ := (class?_eq_some_iff cls n).mp hc
      simp [h1, hlow, hhigh, eq_comm]
  · next h =>
    have h0 : ruling.toNat = 0 := by simp [(bool?_eq_some_iff ruling false).mp h]
    simp [h0, eq_comm]
  · next h =>
    have h2 := (bool?_eq_none_iff ruling).mp h
    simp
    omega

theorem answerRuleReferral_unread (hm : s.mode ≠ .dormant) (h : (Request.ruleReferral bay index ruling cls).place? = none) :
    answerRuleReferral bay index ruling cls s = (s, .refuse .badValue) := by
  have hread := (place_none_cond _ _).mp h
  unfold answerRuleReferral
  rw [if_neg hm]
  split
  · next hb hk hr =>
    have hrule := (ruling?_eq_some_iff ruling cls _).mp hr
    rcases hread with h | h | h
    · exact absurd (by omega) h
    · simp [hb] at h
    · simp [hk] at h
  · rfl

theorem answerRuleReferral_placed {rule : Option Nat} (hm : s.mode ≠ .dormant)
    (h : (Request.ruleReferral bay index ruling cls).place? = some (b, k)) (hr : ruling? ruling cls = some rule) :
    answerRuleReferral bay index ruling cls s = match s.findRecord b k with
      | .error e => (s, .refuse e)
      | .ok r =>
        if r.st = .referred then
          (rule.elim (s.rejectReferral b k) (s.acceptReferral b r), .ok [])
        else (s, .refuse .wrongState) := by
  obtain ⟨-, hb, hk⟩ := (place_some_cond _ _ _ _).mp h
  simp only [answerRuleReferral, if_neg hm, hb, hk, hr] <;> cases s.findRecord b k <;> cases rule <;> rfl

/-- A ruling whose fields are in range is read. -/
theorem ruling?_of_place (h : (Request.ruleReferral bay index ruling cls).place? = some (b, k)) :
    ∃ rule, ruling? ruling cls = some rule := by
  obtain ⟨hrange, -, -⟩ := (place_some_cond _ _ _ _).mp h
  rcases hrange with h0 | ⟨h1, hlow, hhigh⟩
  · exact ⟨none, (ruling?_eq_some_iff ruling cls _).mpr (.inl ⟨h0, rfl⟩)⟩
  · exact ⟨some cls.toNat, (ruling?_eq_some_iff ruling cls _).mpr (.inr ⟨h1, rfl, hlow, hhigh⟩)⟩

end

/-! ## The front end -/

section
variable {r : Request} {s : State}

theorem answer_dormant (hm : s.mode = .dormant) (h : r.notInDormant = true) : answer r s = (s, .refuse .wrongMode) := by
  cases r
  case admitVisit | depart | bayClear | assign | extend | abort | hold | resume | orderFill | cancelFill | ruleReferral => exact if_pos hm
  all_goals exact absurd h Bool.false_ne_true

/-- A bay outside 1 to 6 is refused by every request that names a bay alone. -/
theorem answer_noBay {bay : Byte} (hm : s.mode ≠ .dormant) (hb : bay? bay = none)
    (h : r ∈ [Request.depart bay, .bayClear bay, .abort bay, .hold bay, .resume bay]) : answer r s = (s, .refuse .badValue) := by
  simp only [List.mem_cons, List.not_mem_nil, or_false] at h
  rcases h with rfl | rfl | rfl | rfl | rfl
  · simp only [answer, answerDepart, if_neg hm, hb]
  · simp only [answer, answerBayClear, if_neg hm, hb]
  · simp only [answer, answerAbort, if_neg hm, hb]
  · simp only [answer, answerHold, if_neg hm, hb]
  · simp only [answer, answerResume, if_neg hm, hb]

/-- A request on one compartment with a field out of range. -/
theorem answer_unread (hm : s.mode ≠ .dormant) (hr : r.namesOne = true) (h : r.place? = none) : answer r s = (s, .refuse .badValue) := by
  cases r
  case assign => exact answerAssign_unread hm h
  case extend => exact answerExtend_unread hm h
  case orderFill => exact answerOrderFill_unread hm h
  case cancelFill => exact answerCancelFill_unread hm h
  case ruleReferral => exact answerRuleReferral_unread hm h
  all_goals exact absurd hr Bool.false_ne_true

/-- A request on a compartment that the bay's visit does not hold. -/
theorem answer_notFound {b : Bay} {k : Nat} {e : Result} (hm : s.mode ≠ .dormant) (h : r.place? = some (b, k))
    (he : s.findRecord b k = .error e) : answer r s = (s, .refuse e) := by
  cases r
  case assign => exact (answerAssign_placed hm h).trans (by rw [he])
  case extend => exact (answerExtend_placed hm h).trans (by rw [he])
  case orderFill bay index cargo target =>
    obtain ⟨⟨hc, -, -⟩, -, -⟩ := (place_some_cond _ _ _ _).mp h
    exact (answerOrderFill_placed (c := ⟨cargo.toNat, by omega⟩) hm h rfl).trans (by rw [he])
  case cancelFill => exact (answerCancelFill_placed hm h).trans (by rw [he])
  case ruleReferral =>
    obtain ⟨rule, hrule⟩ := ruling?_of_place h
    exact (answerRuleReferral_placed hm h hrule).trans (by rw [he])
  all_goals exact (Option.some_ne_none _ h.symm).elim

end

/-- Settles O28. -/
theorem compartmentRequestsPassTheFrontEnd : Obligations.CompartmentRequestsPassTheFrontEnd :=
  fun _ _ _ _ _ hc hf hp => ⟨fun hm hr => exec_answer hc hf hp (answer_dormant hm hr),
    fun bay hm hb hr => exec_answer hc hf hp (answer_noBay hm ((bay?_eq_none_iff bay).mpr hb) hr),
    fun hm hr h => exec_answer hc hf hp (answer_unread hm hr h),
    fun _ k hm h hv => exec_answer hc hf hp (answer_notFound hm h (findRecord_noVisit hv k)),
    fun _ _ _ hm h hv hk => exec_answer hc hf hp (answer_notFound hm h (findRecord_beyond hv hk))⟩

end Sys2Proof.Machine
end

section
/-! PROOFS. ADMIT, DEPART, BAY_CLEAR, ASSIGN and EXTEND (R7 to R9, R22, R23, R56, R57). -/

namespace Sys2Proof.Machine

/-! ## ADMIT (R7, R8) -/

theorem freshRecords_eq (b : Bay) (ps : List (Option Cargo)) :
    freshRecords b ps = (List.range ps.length).map fun i => Comp.fresh b (i + 1) (ps.getD i none) := by
  refine List.ext_getElem (by simp [freshRecords]) fun i h₁ h₂ => ?_
  have hi : i < ps.length := by simpa [freshRecords] using h₁
  simp [freshRecords, hi, Nat.add_comm]

section
variable {bay prio : Byte} {fleet : BitVec 24} {priors : List Byte} {s : State}

theorem answerAdmit_unread (hm : s.mode ≠ .dormant) (h : bay.toNat = 0 ∨ 6 < bay.toNat ∨ 1 < prio.toNat ∨ (∃ p ∈ priors, 16 < p.toNat) ∨
    fleet.toNat = 0 ∨ 999999 < fleet.toNat ∨ priors.length = 0 ∨ 8 < priors.length) :
    answerAdmit bay fleet prio priors s = (s, .refuse .badValue) := by
  unfold answerAdmit
  rw [if_neg hm]
  split
  · next hb hp hps =>
    have hbay : ¬ (bay.toNat = 0 ∨ 6 < bay.toNat) := fun h => by simp [(bay?_eq_none_iff bay).mpr h] at hb
    have hprio : ¬ 1 < prio.toNat := fun h => by simp [show priority? prio = none from (bool?_eq_none_iff prio).mpr h] at hp
    have hpriors : ¬ ∃ p ∈ priors, 16 < p.toNat := fun ⟨p, hin, h⟩ => by
      simp [(all?_eq_none_iff prior? priors).mpr ⟨p, hin, (prior?_eq_none_iff p).mpr h⟩] at hps
    exact if_pos (by grind)
  · rfl

/-- ADMIT with its fields in range: its three further checks in order, and the visit. -/
theorem answerAdmit_read {b : Bay} {ps : List (Option Cargo)} (hm : s.mode ≠ .dormant) (hb : bay.toNat = b.val + 1)
    (hp : prio.toNat ≤ 1) (hps : priors.map prior? = ps.map some) (hf : 1 ≤ fleet.toNat) (hf9 : fleet.toNat ≤ 999999)
    (h1 : 1 ≤ priors.length) (h8 : priors.length ≤ 8) : answerAdmit bay fleet prio priors s =
      if s.visit b ≠ none then (s, .refuse .wrongState)
      else if s.certs.backlog = true then (s, .refuse .backlog)
      else if s.freeRecords < priors.length then (s, .refuse .noSpace)
      else (s.admitVisit b fleet.toNat (decide (prio.toNat = 1)) ps,
        .ok [byte (s.admitVisit b fleet.toNat (decide (prio.toNat = 1)) ps).freeRecords]) := by
  have hrange : ¬ (fleet.toNat = 0 ∨ 999999 < fleet.toNat ∨ priors.length = 0 ∨ 8 < priors.length) := by omega
  simp only [answerAdmit, if_neg hm, (bay?_eq_some_iff bay b).mpr hb, show priority? prio = _ from bool?_of_le hp,
    (all?_eq_some_iff prior? priors ps).mpr hps, if_neg hrange, Option.isSome_iff_ne_none]

end

/-- Settles O29. -/
theorem admitCreatesTheVisitAndItsRecords : Obligations.AdmitCreatesTheVisitAndItsRecords := by
  intro l tag bay fleet prio priors s hf hm
  refine ⟨fun h => exec_answer (r := .admitVisit bay fleet prio priors) rfl hf (.inr rfl) (answerAdmit_unread hm h),
    fun b ps hb hp hps h1 h9 hn h8 => ?_⟩
  have hread := answerAdmit_read (s := s) hm hb hp hps h1 h9 hn h8
  have hexec {t : State} {x : Reply} (h : answerAdmit bay fleet prio priors s = (t, x)) :
      exec (.admitVisit l tag bay fleet prio priors) s = .next (t.answered l 0x20 tag x) :=
    exec_answer (r := .admitVisit bay fleet prio priors) rfl hf (.inr rfl) h
  have hlen : priors.length = ps.length := by simpa using congrArg List.length hps
  refine ⟨fun hv => hexec (hread.trans (if_pos hv)), fun hv hb => hexec (hread.trans ?_), fun hv hb hs => hexec (hread.trans ?_),
    fun hv hb hs => ?_⟩
  · rw [if_neg (not_not.mpr hv), if_pos hb]
  · have hfull : s.freeRecords < priors.length := by simp only [State.freeRecords, show Config.records = 32 from rfl]; omega
    rw [if_neg (not_not.mpr hv), if_neg (by simp [hb]), if_pos hfull]
  · have hroom : ¬ s.freeRecords < priors.length := by simp only [State.freeRecords, show Config.records = 32 from rfl]; omega
    rw [hexec (hread.trans (by rw [if_neg (not_not.mpr hv), if_neg (by simp [hb]), if_neg hroom]))]
    have hfree : (s.admitVisit b fleet.toNat (decide (prio.toNat = 1)) ps).freeRecords = 32 - s.records.length - priors.length := by
      rw [State.freeRecords, State.admitVisit, State.setRecords, freshRecords_eq, List.length_append, List.length_map, List.length_range,
        ← hlen]
      exact Nat.sub_add_eq 32 s.records.length priors.length
    rw [hfree, State.admitVisit, freshRecords_eq, ← hlen]
    rfl

/-! ## DEPART and BAY_CLEAR (R22, R23) -/

theorem not_beq_eq_decide {α : Type} [DecidableEq α] (a b : α) : (!(a == b)) = decide (a ≠ b) := by
  rw [beq_eq_decide, decide_not]

/-- Which record states keep a visit from departing. -/
theorem mayDepart_iff (x : CompState) : x.mayDepart = true ↔ x = .admitted ∨ x = .dirty ∨ x = .certified ∨ x = .filled := by
  cases x <;> simp [CompState.mayDepart]

theorem all_mayDepart_iff (s : State) (b : Bay) : ((s.bayRecords b).all fun r => r.st.mayDepart) = true ↔
    ∀ r ∈ s.records, r.bay = b → (r.st = .admitted ∨ r.st = .dirty ∨ r.st = .certified ∨ r.st = .filled) := by
  simp only [List.all_eq_true, State.bayRecords, List.mem_filter, beq_iff_eq, mayDepart_iff, and_imp]

theorem answerDepart_eq {bay : Byte} {b : Bay} {s : State} (hm : s.mode ≠ .dormant) (hb : bay.toNat = b.val + 1) :
    answerDepart bay s =
      if s.visit b = none ∨ ¬ ∀ r ∈ s.records, r.bay = b → (r.st = .admitted ∨ r.st = .dirty ∨ r.st = .certified ∨ r.st = .filled) then
        (s, .refuse .wrongState)
      else (s.depart b, .ok [byte (s.depart b).freeRecords]) := by
  simp only [answerDepart, if_neg hm, (bay?_eq_some_iff bay b).mpr hb, Option.isNone_iff_eq_none, all_mayDepart_iff, ite_or, ite_not]

/-- A lane record written in IDLE shows parked, none, open, closed, off where its lance order is parked (R92). -/
theorem ordersOf_parked {m : Lane} (d : Descriptor) (h : m.st = .idle) (hp : m.orders.lance = .parked) : ordersOf d m = Orders.reset := by
  rw [ordersOf_idle d h, hp]
  rfl

theorem depart_eq (s : State) (b : Bay) : s.depart b =
    ((s.setLane b { s.lane b with queue := (s.lane b).queue.filter fun e => decide (e.kind ≠ .fill), seated := none,
                                  orders := { (s.lane b).orders with lance := .parked } }).setVisit b none).setRecords
      (s.records.filter fun r => decide (r.bay ≠ b)) := by
  have hq : (fun e : QEntry => !(e.kind == .fill)) = fun e => decide (e.kind ≠ .fill) := funext fun e => not_beq_eq_decide _ _
  have hr : (fun r : Comp => !(r.bay == b)) = fun r => decide (r.bay ≠ b) := funext fun r => not_beq_eq_decide _ _
  simp only [State.depart, State.freeVisit, hq, hr]
  rfl

theorem lane_depart (s : State) (b : Bay) : (s.depart b).lane b =
    (s.setLane b { (s.lane b).park with queue := (s.lane b).queue.filter fun e => !(e.kind == .fill), seated := none }).lane b := rfl

/-- A lane's release touches the utilities alone. -/
theorem release_fst (s : State) (b : Bay) : (s.release b).1 = { s with utils := (s.release b).1.utils } := by
  unfold State.release
  split <;> rfl

/-- The machine after a BAY_CLEAR, before the arbiter's judgement of what the lane let go. -/
def State.clearedBay (s : State) (b : Bay) : State :=
  let x := (s.release b).1
  let s1 := ((x.setPin b none).setScan b none).setLane b (x.lane b).cleared
  (s1.setCerts { s1.certs with withheld := s1.certs.withheld.filter fun w => !(w.bay == b) }).freeVisit b

theorem clearBay_eq (s : State) (b : Bay) : s.clearBay b = (s.clearedBay b).settle (s.release b).2 := rfl

theorem visit_setVisit_other (s : State) {b c : Bay} (v : Option Visit) (h : c ≠ b) : (s.setVisit b v).visit c = s.visit c :=
  Vector.getElem_set_ne b.isLt c.isLt fun e => h (Fin.ext e.symm)

theorem scan_setScan_other (s : State) {b c : Bay} (x : Option Scan) (h : c ≠ b) : (s.setScan b x).scan c = s.scan c :=
  Vector.getElem_set_ne b.isLt c.isLt fun e => h (Fin.ext e.symm)

section
variable (s : State) (b : Bay)

/-- The machine a BAY_CLEAR writes the lane in: the claim or grant let go, the pin and the scan removed. -/
def State.unpinned (s : State) (b : Bay) : State := ((s.release b).1.setPin b none).setScan b none

theorem lane_unpinned (c : Bay) : (s.unpinned b).lane c = s.lane c := by
  unfold State.unpinned
  rw [release_fst]
  rfl

theorem port_unpinned (c : Bay) : (s.unpinned b).port c = s.port c := by
  unfold State.unpinned
  rw [release_fst]
  rfl

theorem lane_clearedBay_eq (c : Bay) : (s.clearedBay b).lane c = ((s.unpinned b).setLane b (s.lane b).cleared).lane c := by
  have hlanes : (s.clearedBay b).lanes = ((s.unpinned b).setLane b ((s.release b).1.lane b).cleared).lanes := rfl
  have hlane : (s.release b).1.lane b = s.lane b := lane_unpinned s b b
  rw [hlane] at hlanes
  exact congrArg (fun v : Vector Lane 6 => v[c]) hlanes

theorem port_clearedBay_eq (c : Bay) : (s.clearedBay b).port c = ((s.unpinned b).setLane b (s.lane b).cleared).port c := by
  have hports : (s.clearedBay b).ports = ((s.unpinned b).setLane b ((s.release b).1.lane b).cleared).ports := rfl
  have hlane : (s.release b).1.lane b = s.lane b := lane_unpinned s b b
  rw [hlane] at hports
  exact congrArg (fun v : Vector Port 6 => v[c]) hports

theorem lane_clearedBay : (s.clearedBay b).lane b =
    { s.lane b with st := .idle, current := none, service := none, ret := none, starveRelease := false, queue := [], seated := none,
                    orders := Orders.reset } := by
  rw [lane_clearedBay_eq, lane_setLane, ordersOf_parked _ rfl rfl]
  rfl

/-- A BAY_CLEAR's lane is written as it stands afterwards. -/
theorem port_clearedBay : (s.clearedBay b).port b = (s.setLane b ((s.clearedBay b).lane b)).port b := by
  rw [port_clearedBay_eq, port_setLane, port_setLane, lane_clearedBay, ordersOf_parked _ rfl rfl, ordersOf_parked _ rfl rfl,
    lane_unpinned, port_unpinned]

theorem clearedBay_other {c : Bay} (h : c ≠ b) : (s.clearedBay b).visit c = s.visit c ∧ (s.clearedBay b).lane c = s.lane c ∧
    (s.clearedBay b).port c = s.port c ∧ (s.clearedBay b).scan c = s.scan c := by
  have hvisits : (s.clearedBay b).visits = (s.release b).1.visits.set b none := rfl
  have hscans : (s.clearedBay b).scans = (s.release b).1.scans.set b none := rfl
  rw [release_fst] at hvisits hscans
  refine ⟨(congrArg (fun v : Vector (Option Visit) 6 => v[c]) hvisits).trans (visit_setVisit_other s none h), ?_, ?_,
    (congrArg (fun v : Vector (Option Scan) 6 => v[c]) hscans).trans (scan_setScan_other s none h)⟩
  · rw [lane_clearedBay_eq, lane_setLane_other _ _ h.symm, lane_unpinned]
  · rw [port_clearedBay_eq, port_setLane_other _ _ h.symm, port_unpinned]

/-- What a BAY_CLEAR makes of the rest of the machine. -/
theorem clearedBay_rest : (s.clearedBay b).visit b = none ∧ (s.clearedBay b).scan b = none ∧
    (s.clearedBay b).records = (s.records.filter fun r => decide (r.bay ≠ b)) ∧
    (s.clearedBay b).certs = { s.certs with withheld := s.certs.withheld.filter fun w => decide (w.bay ≠ b) } ∧
    (s.clearedBay b).store = { s.store with pins := s.store.pins.set b none } ∧ (s.clearedBay b).maps = s.maps ∧
    (s.clearedBay b).notices = s.notices ∧ (s.clearedBay b).freeCount = s.freeCount ∧
    (s.clearedBay b).utils = (s.release b).1.utils := by
  have hr : (fun r : Comp => !(r.bay == b)) = fun r => decide (r.bay ≠ b) := funext fun r => not_beq_eq_decide _ _
  have hw : (fun w : Withheld => !(w.bay == b)) = fun w => decide (w.bay ≠ b) := funext fun w => not_beq_eq_decide _ _
  obtain ⟨us, hus⟩ : ∃ us, (s.release b).1 = { s with utils := us } := ⟨_, release_fst s b⟩
  have hvisits : (s.clearedBay b).visits = (s.release b).1.visits.set b none := rfl
  have hscans : (s.clearedBay b).scans = (s.release b).1.scans.set b none := rfl
  rw [hus] at hvisits hscans
  refine ⟨(congrArg (fun v : Vector (Option Visit) 6 => v[b]) hvisits).trans (visit_setVisit s b none),
    (congrArg (fun v : Vector (Option Scan) 6 => v[b]) hscans).trans (scan_setScan s b none), ?_⟩
  have hstore : (s.clearedBay b).store = ((s.release b).1.setPin b none).store := by simp [State.clearedBay, State.freeVisit]
  have hrecords : (s.clearedBay b).records = (s.release b).1.records.filter fun r => !(r.bay == b) := by
    simp [State.clearedBay, State.freeVisit, State.setRecords]
  have hcerts : (s.clearedBay b).certs = { (s.release b).1.certs with
      withheld := (s.release b).1.certs.withheld.filter fun w => !(w.bay == b) } := by
    simp [State.clearedBay, State.freeVisit, State.setCerts]
  rw [hus, hr] at hrecords
  rw [hus, hw] at hcerts
  rw [hus] at hstore
  refine ⟨hrecords, hcerts, hstore, ?_, ?_, ?_, ?_⟩
  all_goals simp [State.clearedBay, State.freeVisit, hus]

theorem frame_clearedBay : CascadeFrame (s.setVisit b none) (s.clearedBay b) := by
  obtain ⟨us, hus⟩ : ∃ us, (s.release b).1 = { s with utils := us } := ⟨_, release_fst s b⟩
  constructor <;> simp [State.clearedBay, State.freeVisit, State.setPin, State.setVisit, hus]

end

/-- Settles O30. -/
theorem departAndBayClearFreeTheBay : Obligations.DepartAndBayClearFreeTheBay := by
  intro l tag bay b s hm hb
  refine ⟨fun hf => ?_, fun hf => ?_⟩
  · have heq := answerDepart_eq hm hb
    have hexec {t : State} {x : Reply} (h : answerDepart bay s = (t, x)) :
        exec (.depart l tag bay) s = .next (t.answered l 0x21 tag x) := exec_answer (r := .depart bay) rfl hf (.inr rfl) h
    refine ⟨fun hv => hexec (heq.trans (if_pos (.inl hv))), fun r hr hrb hst => ?_, fun hv hall => ⟨s.depart b, depart_eq s b, ?_, ?_⟩⟩
    · have hkeeps : ¬ ∀ r ∈ s.records, r.bay = b → (r.st = .admitted ∨ r.st = .dirty ∨ r.st = .certified ∨ r.st = .filled) :=
        fun h => by grind [h r hr hrb]
      exact hexec (heq.trans (if_pos (.inr hkeeps)))
    · intro hi
      rw [lane_depart, lane_setLane]
      exact ordersOf_parked _ hi rfl
    · exact hexec (heq.trans (if_neg (not_or.mpr ⟨hv, not_not.mpr hall⟩)))
  · have hbay := (bay?_eq_some_iff bay b).mpr hb
    have hexec {t : State} {x : Reply} (h : answerBayClear bay s = (t, x)) :
        exec (.bayClear .office tag bay) s = .next (t.answered .office 0x22 tag x) := exec_answer (r := .bayClear bay) rfl hf (.inl rfl) h
    refine ⟨fun hv => hexec ?_, fun hv => ⟨s.clearedBay b, ?_⟩⟩
    · simp only [answerBayClear, if_neg hm, hbay, hv, Option.isNone_none, if_true]
    · have hclear := hexec (t := (s.clearedBay b).settle (s.release b).2) (x := .ok []) (by
        simp only [answerBayClear, if_neg hm, hbay, Option.isNone_iff_eq_none, if_neg hv, clearBay_eq])
      obtain ⟨hvisit, hscan, hrecords, hcerts, hstore, hmaps, hnotices, hfree, hutils⟩ := clearedBay_rest s b
      refine ⟨hvisit, fun c hc => clearedBay_other s b hc, hfree, hrecords, hcerts, lane_clearedBay s b, port_clearedBay s b, hscan, hstore,
        hmaps, hnotices, frame_clearedBay s b, fun hh => ?_, fun u hh => ?_⟩
      · have hrel : s.release b = (s, []) := by simp only [State.release, hh]
        rw [hrel] at hutils hclear
        rw [settle_nil] at hclear
        exact ⟨hutils, hclear⟩
      · have hrel : s.release b = (s.setUtil u ((s.util u).drop b), [.judge u]) := by simp only [State.release, hh]
        rw [hrel] at hutils hclear
        exact ⟨hutils, hclear⟩

/-! ## ASSIGN (R9) -/

theorem record?_eq (b : Bay) (k : Nat) (s : State) : s.record? b k = s.records.find? fun x => decide (x.bay = b ∧ x.index = k) := by
  have hat : (fun x : Comp => x.isAt b k) = fun x => decide (x.bay = b ∧ x.index = k) :=
    funext fun x => Bool.eq_iff_iff.mpr ((isAt_iff x b k).trans decide_eq_true_iff.symm)
  rw [State.record?, hat]

theorem modRecord_eq (b : Bay) (k : Nat) (f : Comp → Comp) (s : State) :
    s.modRecord b k f = { s with records := s.records.map fun x => if x.bay = b ∧ x.index = k then f x else x } := by
  have hat : (fun x : Comp => if x.isAt b k then f x else x) = fun x => if x.bay = b ∧ x.index = k then f x else x :=
    funext fun x => if_congr (isAt_iff x b k) rfl rfl
  rw [State.modRecord, hat]
  rfl

/-- A lane judges an appended entry where its queue was empty (R64). -/
theorem afterIssue_eq (s : State) (b : Bay) : s.afterIssue b = if (s.lane b).queue = [] then [.idle b] else [] :=
  if_congr List.isEmpty_iff rfl rfl

/-- Settles O31. -/
theorem assignQueuesAWash : Obligations.AssignQueuesAWash := by
  refine ⟨record?_eq, modRecord_eq, fun l tag bay index head mode last cls b k r s hf hm hp hn => ?_⟩
  have heq := answerAssign_placed hm hp
  rw [findRecord_names hn] at heq
  have hexec {t : State} {x : Reply} (h : answerAssign bay index head mode last cls s = (t, x)) :
      exec (.assign l tag bay index head mode last cls) s = .next (t.answered l 0x23 tag x) :=
    exec_answer (r := .assign bay index head mode last cls) rfl hf (.inr rfl) h
  refine ⟨fun ha hd => hexec (heq.trans (if_neg (not_or.mpr ⟨ha, hd⟩))), fun h => ?_⟩
  rw [hexec (heq.trans (if_pos h)), State.assign, afterIssue_eq]
  rfl

/-! ## EXTEND (R56, R57) -/

/-- EXTEND's last check: a QUEUED or WASHING record with a BOUNDED program. -/
theorem lastIndex?_eq_some_iff (r : Comp) (old : StepIx) : r.lastIndex? = some old ↔
    (r.st = .queued ∨ r.st = .washing) ∧ ∃ p, r.program = some p ∧ p.chain = .bounded old := by
  unfold Comp.lastIndex?
  by_cases hst : r.st = .queued ∨ r.st = .washing
  · rw [if_pos hst, and_iff_right hst]
    cases hp : r.program with
    | none => simp
    | some p =>
      obtain ⟨head, chain, cls⟩ := p
      cases chain <;> simp
  · simp [hst]

theorem lastIndex?_eq_none {r : Comp} (h : ¬ ((r.st = .queued ∨ r.st = .washing) ∧ ∃ p old, r.program = some p ∧ p.chain = .bounded old)) :
    r.lastIndex? = none := by
  cases hl : r.lastIndex? with
  | none => rfl
  | some old =>
    obtain ⟨hst, p, hp, hc⟩ := (lastIndex?_eq_some_iff r old).mp hl
    exact absurd ⟨hst, p, old, hp, hc⟩ h

/-- The finished step's next field leads on (R53, R57). -/
theorem goNext_some {s : State} {b : Bay} {m : Lane} {n : StepIx} (h : (s.entry m.index).next? = some n) :
    s.goNext b m = { s with lanes := s.lanes.set b { m with index := n, orders := (s.lane b).orders } } := by
  simp only [State.goNext, State.nextOf, h]
  rfl

/-- From an entry made BLANK since, the lane goes to the next free value (log 10). -/
theorem goNext_none {s : State} {b : Bay} {m : Lane} (h : (s.entry m.index).next? = none) : s.goNext b m =
    { s with freeCount := s.freeCount + 1,
             lanes := s.lanes.set b { m with index := Config.freeNext s.freeCount, orders := (s.lane b).orders } } := by
  simp only [State.goNext, State.nextOf, h]
  rfl

section
variable {s : State} {b : Bay} {k : Nat} {last : StepIx}

/-- EXTEND sends the record's STARVED lane on (R57). -/
theorem extend_starved (hc : (s.lane b).current = some k) (hw : (s.lane b).service = some .wash) (hst : (s.lane b).st = .starved) :
    s.extend b k last =
      (((s.modRecord b k fun r => r.extended last).goNext b (s.lane b)).settle [.fetch b], true) := by
  simp only [State.extend, lane_modRecord, hc, hw, hst, and_self, if_true]

/-- EXTEND records the release of a lane HELD out of STARVED (R57). -/
theorem extend_held (hc : (s.lane b).current = some k) (hw : (s.lane b).service = some .wash) (hst : (s.lane b).st = .held)
    (hr : (s.lane b).ret = some .starved) : s.extend b k last =
      ((s.modRecord b k fun r => r.extended last).setLane b { s.lane b with starveRelease := true }, true) := by
  simp only [State.extend, lane_modRecord, hc, hw, hst, hr, and_self, if_true]

/-- EXTEND leaves every other lane alone (R57). -/
theorem extend_apart (h : (s.lane b).current ≠ some k ∨ (s.lane b).service ≠ some .wash ∨
    ((s.lane b).st ≠ .starved ∧ ¬ ((s.lane b).st = .held ∧ (s.lane b).ret = some .starved))) :
    s.extend b k last = (s.modRecord b k fun r => r.extended last, false) := by
  have hstay : (s.lane b).current = some k ∧ (s.lane b).service = some .wash →
      (s.lane b).st ≠ .starved ∧ ¬ ((s.lane b).st = .held ∧ (s.lane b).ret = some .starved) := fun hcur => by grind
  unfold State.extend
  by_cases hcur : (s.lane b).current = some k ∧ (s.lane b).service = some .wash
  · obtain ⟨hstarved, hheld⟩ := hstay hcur
    refine (if_pos hcur).trans ?_
    simp only [lane_modRecord]
    cases hst : (s.lane b).st with
    | starved => exact absurd hst hstarved
    | held =>
      rcases hret : (s.lane b).ret with _ | x
      · rfl
      · cases x with
        | starved => exact absurd ⟨hst, hret⟩ hheld
        | _ => rfl
    | _ => rfl
  · exact if_neg hcur

end

/-- Settles O32. -/
theorem extendSetsTheLastIndexAndReleasesAStarvedLane : Obligations.ExtendSetsTheLastIndexAndReleasesAStarvedLane := by
  intro l tag bay index new b k r s hf hm hp hn
  have heq := answerExtend_placed hm hp
  rw [findRecord_names hn] at heq
  have hexec {t : State} {x : Reply} (h : answerExtend bay index new s = (t, x)) :
      exec (.extend l tag bay index new) s = .next (t.answered l 0x24 tag x) :=
    exec_answer (r := .extend bay index new) rfl hf (.inr rfl) h
  refine ⟨fun h => hexec (heq.trans ?_), fun p old t hst hpr hch ht => ?_⟩
  · simp only [lastIndex?_eq_none h]
  · have hext : answerExtend bay index new s =
        ((s.extend b k (stepIx new)).1, .ok [byte old.val, flag (s.extend b k (stepIx new)).2]) := by
      rw [heq]
      simp only [(lastIndex?_eq_some_iff r old).mpr ⟨hst, p, hpr, hch⟩]
    have ht' : s.modRecord b k (fun r => r.extended (stepIx new)) = t := ht.symm
    refine ⟨fun n hc hw hs hnext => ?_, fun hc hw hs hnext => ?_, fun hc hw hs hret => ?_, fun h => ?_⟩
    · rw [extend_starved hc hw hs, ht', goNext_some (by rw [ht]; exact hnext)] at hext
      rw [hexec hext, ht]
      rfl
    · rw [extend_starved hc hw hs, ht', goNext_none (by rw [ht]; exact hnext)] at hext
      rw [hexec hext, ht]
      rfl
    · rw [extend_held hc hw hs hret, ht'] at hext
      exact hexec hext
    · rw [extend_apart h, ht'] at hext
      exact hexec hext

end Sys2Proof.Machine
end

section
/-! PROOFS. Fill orders (R17 to R20, R31), the end of a fill (R134), and the choice of a fill line (R132, R133). -/

namespace Sys2Proof.Machine

/-! ## ORDER_FILL -/

theorem mayOrder_iff (x : CompState) : x.mayOrder = true ↔ x ≠ .filling ∧ x ≠ .filled := by cases x <;> simp [CompState.mayOrder]

theorem lineCarries_iff (s : State) (c : Cargo) :
    s.lineCarries c = true ↔ (s.util .fillA).cargo = some c ∨ (s.util .fillB).cargo = some c := by
  rw [State.lineCarries, Bool.or_eq_true, beq_iff_eq, beq_iff_eq]

theorem queuedFill_iff (m : Lane) (k : Nat) : m.queuedFill k = true ↔ { index := k, kind := .fill } ∈ m.queue := by
  simp only [Lane.queuedFill, List.any_eq_true, beq_iff_eq, exists_eq_right]

section
variable {s : State} {b : Bay} {r : Comp} {o : FillOrder}

theorem judgeOrder_noLine (h : s.lineCarries o.cargo = false) : s.judgeOrder b r o = (s, .refuse .noLine) := by
  simp only [State.judgeOrder, h, Bool.not_false, if_true]

theorem judgeOrder_forbidden (h : s.lineCarries o.cargo = true) (hc : s.carryEntry r.prior o.cargo = .forbidden) :
    s.judgeOrder b r o = (s, .refuse .forbidden) := by
  simp [State.judgeOrder, h, hc]

/-- An order whose carry-over entry requires a class: CLASS_SHORT, or accepted (R17, R31). -/
theorem judgeOrder_required {n : Nat} (h : s.lineCarries o.cargo = true) (hc : s.carryEntry r.prior o.cargo = .required n) :
    s.judgeOrder b r o = if r.st = .certified ∧ r.achieved < n then
        (s, { result := .classShort, fields := [byte n, byte r.achieved], limited := false, prior := false })
      else (s.orderFill b r o, .ok [byte n]) := by
  simp [State.judgeOrder, h, hc]

/-- An accepted order of a CERTIFIED record queues its FILL entry (R18). -/
theorem orderFill_queues (hst : r.st = .certified) (hq : { index := r.index, kind := .fill } ∉ (s.lane b).queue) : s.orderFill b r o =
    ((s.modRecord b r.index fun x => { x with order := some o }).setLane b
      { s.lane b with queue := (s.lane b).queue ++ [{ index := r.index, kind := .fill }] }).settle
      (if (s.lane b).queue = [] then [.idle b] else []) := by
  have hno : (s.lane b).queuedFill r.index = false := Bool.eq_false_iff.mpr fun h => hq ((queuedFill_iff _ _).mp h)
  unfold State.orderFill
  rw [← afterIssue_eq]
  exact if_pos ⟨hst, hno⟩

/-- An order accepted in another state, or with its FILL entry waiting already, is stored alone (R18). -/
theorem orderFill_stores (h : r.st = .certified → { index := r.index, kind := .fill } ∈ (s.lane b).queue) :
    s.orderFill b r o = s.modRecord b r.index fun x => { x with order := some o } := by
  refine if_neg fun ⟨hst, hno⟩ => ?_
  rw [(queuedFill_iff _ _).mpr (h hst)] at hno
  exact absurd hno (by decide)

end

/-- Settles O33. -/
theorem orderFillIsJudgedAndStored : Obligations.OrderFillIsJudgedAndStored := by
  intro l tag bay index cargo target b k r c s hf hm hp hn hc
  obtain ⟨-, hk⟩ := record?_names hn.choose_spec.2.2
  have heq := answerOrderFill_placed hm hp hc
  rw [findRecord_names hn] at heq
  have hexec {t : State} {x : Reply} (h : answerOrderFill bay index cargo target s = (t, x)) :
      exec (.orderFill l tag bay index cargo target) s = .next (t.answered l 0x28 tag x) :=
    exec_answer (r := .orderFill bay index cargo target) rfl hf (.inr rfl) h
  refine ⟨fun hst => hexec (heq.trans (if_neg fun h => ?_)), fun h1 h2 => ?_⟩
  · obtain ⟨h1, h2⟩ := (mayOrder_iff r.st).mp h
    exact hst.elim h1 h2
  · have hjudge := heq.trans (if_pos ((mayOrder_iff r.st).mpr ⟨h1, h2⟩))
    refine ⟨fun hA hB => hexec (hjudge.trans (judgeOrder_noLine (Bool.eq_false_iff.mpr fun h => ?_))), fun hAB => ?_⟩
    · exact ((lineCarries_iff s c).mp h).elim hA hB
    · have hline := (lineCarries_iff s c).mpr hAB
      refine ⟨fun h => hexec (hjudge.trans (judgeOrder_forbidden hline h)), fun n hreq => ?_⟩
      have hrequired := hjudge.trans (judgeOrder_required (o := { cargo := c, target := target.toNat }) hline hreq)
      refine ⟨fun hst hlt => hexec (hrequired.trans (if_pos ⟨hst, hlt⟩)), fun t ht => ?_⟩
      subst hk ht
      refine ⟨fun hst hle hq => hexec (hrequired.trans ((if_neg ?_).trans ?_)), fun h => hexec (hrequired.trans ((if_neg ?_).trans ?_))⟩
      · exact fun hlt => Nat.not_lt.mpr hle hlt.2
      · rw [orderFill_queues hst hq]
      · exact fun hlt => Nat.not_lt.mpr (h hlt.1).1 hlt.2
      · rw [orderFill_stores fun hst => (h hst).2]

/-! ## CANCEL_FILL and the end of a fill -/

theorem dropFill_eq (s : State) (b : Bay) (k : Nat) : s.dropFill b k =
    ((s.modRecord b k fun x => { x with order := none }).setLane b
      { s.lane b with queue := (s.lane b).queue.filter fun e => decide (e ≠ { index := k, kind := .fill }) }).settle
      (if (s.lane b).queue.head? = some { index := k, kind := .fill } then [.idle b] else []) := by
  have hq : (fun e : QEntry => !(e == { index := k, kind := .fill })) = fun e => decide (e ≠ { index := k, kind := .fill }) :=
    funext fun e => not_beq_eq_decide _ _
  simp only [State.dropFill, hq]

theorem modServed_eq {s : State} {b : Bay} {k : Nat} (h : (s.lane b).current = some k) (f : Comp → Comp) :
    s.modServed b f = s.modRecord b k f := by
  simp only [State.modServed, h]

theorem served?_eq {s : State} {b : Bay} {k : Nat} (h : (s.lane b).current = some k) : s.served? b = s.record? b k := by
  simp only [State.served?, h]

theorem servedIndex_eq {s : State} {b : Bay} {k : Nat} (h : (s.lane b).current = some k) : s.servedIndex b = k := by
  simp only [State.servedIndex, h, Option.getD_some]

/-- Settles O34: CANCEL_FILL by cases on the record's state, the end of a fill by cases on why it ended. -/
theorem cancelFillAndTheEndOfAFill : Obligations.CancelFillAndTheEndOfAFill := by
  refine ⟨fun l tag bay index b k r s hf hm hp hn => ?_, fun b e s => rfl, fun b e k r o s hc hr ho => ?_⟩
  · have heq := answerCancelFill_placed hm hp
    rw [findRecord_names hn] at heq
    have hexec {t : State} {x : Reply} (h : answerCancelFill bay index s = (t, x)) :
        exec (.cancelFill l tag bay index) s = .next (t.answered l 0x29 tag x) :=
      exec_answer (r := .cancelFill bay index) rfl hf (.inr rfl) h
    have hopen (ho : r.order ≠ none) (hst : r.st ≠ .filled) : ¬ (r.order.isNone = true ∨ r.st = .filled) := by
      rw [Option.isNone_iff_eq_none]
      exact not_or.mpr ⟨ho, hst⟩
    refine ⟨fun h => hexec (heq.trans (if_pos (h.imp_left Option.isNone_iff_eq_none.mpr))), fun ho hst => hexec (heq.trans ?_),
      fun ho hst => hexec (heq.trans ?_), fun ho h1 h2 h3 => hexec (heq.trans ?_)⟩
    · dsimp only
      rw [if_neg (hopen ho (by simp [hst])), if_pos hst, dropFill_eq]
    · dsimp only
      rw [if_neg (hopen ho (by simp [hst])), if_neg (by simp [hst]), if_pos hst]
    · dsimp only
      rw [if_neg (hopen ho h3), if_neg h1, if_neg h2]
  · obtain ⟨-, rfl⟩ := record?_names hr
    simp only [act, actFillEnded, modServed_eq hc, served?_eq hc, hr, ho]
    cases e with
    | highLevel =>
      simp only [State.raiseFillExtra, ho]
      rfl
    | _ => rfl

/-! ## The choice of a fill line -/

theorem grantsAtOnce_iff (x : Util) : x.grantsAtOnce = true ↔
    x.offline = false ∧ x.fault = false ∧ x.grants.length < x.capacity ∧ x.claims = [] := by
  simp only [Util.grantsAtOnce, Bool.and_eq_true, inService_iff, decide_eq_true_eq, List.isEmpty_iff, and_assoc]

/-- The line chosen between two that carry the class, by what each would do with the claim (R132). -/
theorem chooseLine_both {s : State} {c : Cargo} (ha : (s.util .fillA).cargo = some c) (hb : (s.util .fillB).cargo = some c) :
    s.chooseLine c = if (s.util .fillA).grantsAtOnce then some .fillA
      else if (s.util .fillB).grantsAtOnce then some .fillB
      else if (s.util .fillA).inService && !(s.util .fillB).inService then some .fillA
      else if (s.util .fillB).inService && !(s.util .fillA).inService then some .fillB
      else if (s.util .fillB).claims.length < (s.util .fillA).claims.length then some .fillB
      else some .fillA := by
  simp only [State.chooseLine, ha, hb, beq_self_eq_true]

theorem chooseLine_single (s : State) (c : Cargo) :
    ((s.util .fillA).cargo ≠ some c → (s.util .fillB).cargo ≠ some c → s.chooseLine c = none) ∧
    ((s.util .fillA).cargo = some c → (s.util .fillB).cargo ≠ some c → s.chooseLine c = some .fillA) ∧
    ((s.util .fillA).cargo ≠ some c → (s.util .fillB).cargo = some c → s.chooseLine c = some .fillB) := by
  refine ⟨fun ha hb => ?_, fun ha hb => ?_, fun ha hb => ?_⟩
  · simp only [State.chooseLine, beq_eq_false_iff_ne.mpr ha, beq_eq_false_iff_ne.mpr hb]
  · simp only [State.chooseLine, beq_iff_eq.mpr ha, beq_eq_false_iff_ne.mpr hb]
  · simp only [State.chooseLine, beq_eq_false_iff_ne.mpr ha, beq_iff_eq.mpr hb]

/-- Settles O35. -/
theorem fillsWaitForALineOfTheirClass : Obligations.FillsWaitForALineOfTheirClass := by
  refine ⟨fun b k r o s t hc hw hr ho ht => ?_, fun c s x y ready hx hy hready => ?_⟩
  · have hserved : s.served? b = some r := (served?_eq hc).trans hr
    have hchoose : t.chooseLine o.cargo = s.chooseLine o.cargo := by rw [ht]; rfl
    refine ⟨?_, fun u hu => ?_, fun hu => ?_⟩
    · rw [ht, lane_setLane]
      simp [ordersOf, hw]
    · simp only [act, actFillWait, hserved, ho, ← ht, hchoose, hu]
    · simp only [act, actFillWait, hserved, ho, ← ht, hchoose, hu]
  · subst hx hy
    obtain ⟨hnone, hA, hB⟩ := chooseLine_single s c
    refine ⟨hnone, hA, hB, fun ha hb => ?_⟩
    have hatOnce (z : Util) : z.grantsAtOnce = true ↔ ready z := (grantsAtOnce_iff z).trans (hready z).symm
    rw [chooseLine_both ha hb]
    refine ⟨fun h1 => ?_, fun h1 h2 => ?_, fun h1 h2 h3 h4 => ?_, fun h1 h2 h3 h4 => ?_, fun h1 h2 h3 h4 => ?_, fun h1 h2 h3 h4 => ?_⟩
    · rw [if_pos ((hatOnce _).mpr h1)]
    · rw [if_neg (mt (hatOnce _).mp h1), if_pos ((hatOnce _).mpr h2)]
    · rw [if_neg (mt (hatOnce _).mp h1), if_neg (mt (hatOnce _).mp h2), h3, h4]
      rfl
    · rw [if_neg (mt (hatOnce _).mp h1), if_neg (mt (hatOnce _).mp h2), h3, h4]
      rfl
    · rw [if_neg (mt (hatOnce _).mp h1), if_neg (mt (hatOnce _).mp h2), h3, Bool.and_not_self, if_neg Bool.false_ne_true,
        if_neg Bool.false_ne_true, if_pos h4]
    · rw [if_neg (mt (hatOnce _).mp h1), if_neg (mt (hatOnce _).mp h2), h3, Bool.and_not_self, if_neg Bool.false_ne_true,
        if_neg Bool.false_ne_true, if_neg (Nat.not_lt.mpr h4)]

end Sys2Proof.Machine
end

section
/-! PROOFS. The certificate unit: referrals ruled, records issued or withheld (R16, R144 to R147), retirement, release and the drain
(R148 to R150). -/

namespace Sys2Proof.Machine

/-! ## Withholding -/

/-- The one record of a compartment changed is found changed, where the change keeps its name. -/
theorem record?_modRecord {s : State} {b : Bay} {k : Nat} {f : Comp → Comp} (hf : ∀ r, (f r).bay = r.bay ∧ (f r).index = r.index) :
    (s.modRecord b k f).record? b k = (s.record? b k).map f := by
  have hat (r : Comp) : (if r.isAt b k then f r else r).isAt b k = r.isAt b k := by
    split
    · rw [Bool.eq_iff_iff, isAt_iff, isAt_iff, (hf r).1, (hf r).2]
    · rfl
  rw [State.record?, State.modRecord, State.setRecords, List.find?_map]
  have hcomp : ((fun r : Comp => r.isAt b k) ∘ fun r : Comp => if r.isAt b k then f r else r) = fun r => r.isAt b k := funext hat
  rw [hcomp]
  cases h : s.records.find? (fun r => r.isAt b k) with
  | none => rw [State.record?, h]; rfl
  | some r =>
    rw [State.record?, h]
    exact congrArg some (if_pos (List.find?_some (p := fun r : Comp => r.isAt b k) h))

theorem canIssue_iff (s : State) :
    s.canIssue = true ↔ s.certs.hold = false ∧ s.certs.log.length < 24 ∧ s.certs.next ≠ none := by
  simp only [State.canIssue, Bool.and_eq_true, Bool.not_eq_true', decide_eq_true_eq, Option.isSome_iff_ne_none, and_assoc]
  rfl

/-- A record withheld while the numbers are not spent, or under audit hold (R144). -/
theorem withhold_waits {s : State} (b : Bay) (k : Nat) (f : Bool) (h : s.certs.next ≠ none ∨ s.certs.hold = true) : s.withhold b k f =
    (s.setCerts { s.certs with withheld := s.certs.withheld ++ [⟨b, k, f⟩] }).modRecord b k fun x => { x with st := .awaitCert } := by
  refine if_neg fun hc => ?_
  obtain ⟨hn, hh⟩ := hc
  rcases h with h | h
  · exact h (Option.isNone_iff_eq_none.mp hn)
  · exact absurd (h.symm.trans hh) (by decide)

/-- A record withheld with the numbers spent starts audit hold (R144, R147). -/
theorem withhold_spent {s : State} (b : Bay) (k : Nat) (f : Bool) (hn : s.certs.next = none) (hh : s.certs.hold = false) : s.withhold b k f =
    ((s.setCerts { s.certs with withheld := s.certs.withheld ++ [⟨b, k, f⟩], hold := true, counter := 0 }).modRecord b k
      fun x => { x with st := .awaitCert }).raiseYard (.auditHold true 4294967295) :=
  if_pos ⟨Option.isNone_iff_eq_none.mpr hn, hh⟩

theorem act_certify_issues {s : State} {b : Bay} {k n : Nat} {f : Bool} {r : Comp} (hr : s.record? b k = some r)
    (hh : s.certs.hold = false) (hl : s.certs.log.length < 24) (hn : s.certs.next = some n) :
    act (.certify b k f) s = (s.issueTo n r f, if (s.lane b).queue = [] then [.idle b] else []) := by
  simp only [act, actCertify, hr, hn, (canIssue_iff s).mpr ⟨hh, hl, by simp [hn]⟩, if_true, afterIssue_eq]

theorem act_certify_withholds {s : State} {b : Bay} {k : Nat} {f : Bool} {r : Comp} (hr : s.record? b k = some r)
    (h : s.certs.hold = true ∨ 24 ≤ s.certs.log.length ∨ s.certs.next = none) : act (.certify b k f) s = (s.withhold b k f, []) := by
  have hno : ¬ s.canIssue = true := fun hc => by
    obtain ⟨hh, hl, hn⟩ := (canIssue_iff s).mp hc
    rcases h with h | h | h
    · exact absurd (h.symm.trans hh) (by decide)
    · omega
    · exact hn h
  cases hn : s.certs.next with
  | none => simp only [act, actCertify, hr, hn]
  | some n => simp only [act, actCertify, hr, hn, if_neg hno]

/-- Settles O36. -/
theorem referredRecordsAreRuledAndRecordsHandedOver : Obligations.ReferredRecordsAreRuledAndRecordsHandedOver := by
  refine ⟨fun l tag bay index ruling cls b k r s hf hm hp hn => ?_, fun b k f r s hr => ⟨fun n hh hl hn => act_certify_issues hr hh hl hn,
    fun h => ⟨s.withhold b k f, act_certify_withholds hr h, ?_⟩⟩⟩
  · obtain ⟨-, hk⟩ := record?_names hn.choose_spec.2.2
    have hexec {t : State} {x : Reply} (h : answerRuleReferral bay index ruling cls s = (t, x)) :
        exec (.ruleReferral l tag bay index ruling cls) s = .next (t.answered l 0x2A tag x) :=
      exec_answer (r := .ruleReferral bay index ruling cls) rfl hf (.inr rfl) h
    have heq {rule : Option Nat} (hrule : ruling? ruling cls = some rule) := answerRuleReferral_placed hm hp hrule
    rw [findRecord_names hn] at heq
    refine ⟨fun hst => ?_, fun p hst h1 hpr => ?_, fun hst h0 => ?_⟩
    · obtain ⟨rule, hrule⟩ := ruling?_of_place hp
      exact hexec ((heq hrule).trans (if_neg hst))
    · obtain ⟨hrange, -, -⟩ := (place_some_cond _ _ _ _).mp hp
      have hrule : ruling? ruling cls = some (some cls.toNat) := (ruling?_eq_some_iff ruling cls _).mpr (.inr ⟨h1, rfl, by omega, by omega⟩)
      have hclass : r.programClass = p.cls := by simp only [Comp.programClass, hpr]
      rw [hexec ((heq hrule).trans (if_pos hst)), Option.elim_some, State.acceptReferral, hclass, hk]
    · have hrule : ruling? ruling cls = some none := (ruling?_eq_some_iff ruling cls _).mpr (.inl ⟨h0, rfl⟩)
      exact hexec ((heq hrule).trans (if_pos hst))
  · have hfound {t : State} (ht : t.records = s.records) :
        (t.modRecord b k fun x => { x with st := .awaitCert }).record? b k = some { r with st := .awaitCert } := by
      rw [record?_modRecord (f := fun x => { x with st := .awaitCert }) fun x => ⟨rfl, rfl⟩, State.record?, ht]
      exact congrArg (Option.map _) hr
    by_cases hspent : s.certs.next = none ∧ s.certs.hold = false
    · have hnot : ¬ (s.certs.next ≠ none ∨ s.certs.hold = true) := by simp [hspent]
      rw [withhold_spent b k f hspent.1 hspent.2]
      refine ⟨hfound rfl, congrArg State.records (modRecord_eq b k _ _), rfl, rfl, rfl, rfl, rfl, rfl, rfl, ?_, fun h => absurd h hnot,
        fun _ _ => ⟨rfl, rfl⟩⟩
      exact withhold_spent b k f hspent.1 hspent.2 ▸ (CascadeFrame.refl s).withhold b k f
    · have hwaits : s.certs.next ≠ none ∨ s.certs.hold = true := by grind
      rw [withhold_waits b k f hwaits]
      refine ⟨hfound rfl, congrArg State.records (modRecord_eq b k _ _), rfl, rfl, rfl, rfl, rfl, rfl, rfl, ?_, fun _ => ⟨rfl, rfl⟩,
        fun hn hh => absurd ⟨hn, hh⟩ hspent⟩
      exact withhold_waits b k f hwaits ▸ (CascadeFrame.refl s).withhold b k f

/-! ## An issue (R145) -/

/-- The backlog judged, as one update of the certificate and the notice unit (R151). -/
theorem judgeBacklog_eq (s : State) : s.judgeBacklog =
    { s with
      certs := { s.certs with backlog := decide (s.certs.highWater ≤ s.certs.log.length) },
      notices := if decide (s.certs.highWater ≤ s.certs.log.length) = s.certs.backlog then s.notices
        else s.notices.raise 0 (.backlog (decide (s.certs.highWater ≤ s.certs.log.length)) s.certs.log.length) } := by
  by_cases h : decide (s.certs.highWater ≤ s.certs.log.length) = s.certs.backlog
  · rw [judgeBacklog_same h.symm, if_pos h, h]
  · rw [if_neg h]
    exact if_neg h

/-- What an issue's last item does to the certificate unit (R145, R147). -/
def CertUnit.counted (u : CertUnit) (n : Nat) : CertUnit :=
  if u.hold = false ∧ ((0 < u.period ∧ u.period ≤ min 255 (u.counter + 1)) ∨ n = 4294967295) then { u with hold := true, counter := 0 }
  else { u with counter := min 255 (u.counter + 1) }

/-- The notice unit `w` after the event of an issue's last item. -/
def CertUnit.countNotices (u : CertUnit) (w : NoticeUnit) (n : Nat) : NoticeUnit :=
  if u.hold = true then w
  else if 0 < u.period ∧ u.period ≤ min 255 (u.counter + 1) then w.raise 0 (.auditHold false n)
  else if n = 4294967295 then w.raise 0 (.auditHold true n)
  else w

theorem countIssue_eq (s : State) (n : Nat) :
    s.countIssue n = { s with certs := s.certs.counted n, notices := s.certs.countNotices s.notices n } := by
  unfold CertUnit.counted CertUnit.countNotices
  by_cases hh : s.certs.hold = true
  · rw [if_neg (by simp [hh]), if_pos hh]
    exact if_pos hh
  · have hfalse : s.certs.hold = false := Bool.eq_false_iff.mpr hh
    rw [if_neg hh]
    by_cases hp : 0 < s.certs.period ∧ s.certs.period ≤ min 255 (s.certs.counter + 1)
    · rw [if_pos ⟨hfalse, .inl hp⟩, if_pos hp]
      exact (if_neg hh).trans (if_pos hp)
    · rw [if_neg hp]
      by_cases hn : n = 4294967295
      · rw [if_pos ⟨hfalse, .inr hn⟩, if_pos hn]
        exact (if_neg hh).trans ((if_neg hp).trans (if_pos hn))
      · have hno : ¬ (s.certs.hold = false ∧
            ((0 < s.certs.period ∧ s.certs.period ≤ min 255 (s.certs.counter + 1)) ∨ n = 4294967295)) := fun h => h.2.elim hp hn
        rw [if_neg hno, if_neg hn]
        exact (if_neg hh).trans ((if_neg hp).trans (if_neg hn))

/-- The certificate unit after an issue's number and certificate, before its count. -/
def State.issuedCerts (s : State) (n : Nat) (r : Comp) (f : Bool) : CertUnit :=
  { s.certs with
    next := if n = 4294967295 then none else some (n + 1), log := s.certs.log ++ [s.fillCert n r f],
    backlog := decide (s.certs.highWater ≤ s.certs.log.length + 1) }

/-- The notice unit after CERT_ISSUED and the backlog's event. -/
def State.issuedNotices (s : State) (n : Nat) (r : Comp) : NoticeUnit :=
  let u := s.notices.raise (bayScope r.bay) (.certIssued r.index n r.achieved)
  if decide (s.certs.highWater ≤ s.certs.log.length + 1) = s.certs.backlog then u
  else u.raise 0 (.backlog (decide (s.certs.highWater ≤ s.certs.log.length + 1)) (s.certs.log.length + 1))

theorem markCertified_keeps (s : State) (n : Nat) (r : Comp) : (s.markCertified n r).certs = s.certs ∧
    (s.markCertified n r).notices = s.notices ∧ (s.markCertified n r).utils = s.utils ∧ (s.markCertified n r).store = s.store ∧
    (s.markCertified n r).maps = s.maps ∧ (s.markCertified n r).scans = s.scans ∧ (s.markCertified n r).freeCount = s.freeCount := by
  unfold State.markCertified
  dsimp only
  split <;> exact ⟨rfl, rfl, rfl, rfl, rfl, rfl, rfl⟩

theorem records_markCertified (s : State) (n : Nat) (r : Comp) : (s.markCertified n r).records =
    s.records.map fun x => if x.bay = r.bay ∧ x.index = r.index then { x with st := .certified, cert := some n } else x := by
  have h : (s.markCertified n r).records = (s.modRecord r.bay r.index fun x => { x with st := .certified, cert := some n }).records := by
    unfold State.markCertified
    dsimp only
    split <;> rfl
  rw [h, modRecord_eq]

theorem markCertified_noOrder {s : State} {n : Nat} {r : Comp} (h : r.order = none) :
    s.markCertified n r = s.modRecord r.bay r.index fun x => { x with st := .certified, cert := some n } :=
  if_neg (by simp [h])

theorem markCertified_order {s : State} {n : Nat} {r : Comp} (h : r.order ≠ none) : s.markCertified n r =
    (s.modRecord r.bay r.index fun x => { x with st := .certified, cert := some n }).appendEntry r.bay
      { index := r.index, kind := .fill } :=
  if_pos (Option.isSome_iff_ne_none.mpr h)

/-- An issue as one update of the machine whose record is marked (R145). -/
theorem issueTo_eq (s : State) (n : Nat) (r : Comp) (f : Bool) : s.issueTo n r f =
    { (s.logCert n r f).markCertified n r with
      certs := (s.issuedCerts n r f).counted n,
      notices := (s.issuedCerts n r f).countNotices (s.issuedNotices n r) n } := by
  obtain ⟨hcerts, hnotices, -⟩ := markCertified_keeps (s.logCert n r f) n r
  have hc : (((s.logCert n r f).markCertified n r).raiseBay r.bay (.certIssued r.index n r.achieved)).certs = (s.logCert n r f).certs := hcerts
  have hn : (((s.logCert n r f).markCertified n r).raiseBay r.bay (.certIssued r.index n r.achieved)).notices =
      s.notices.raise (bayScope r.bay) (.certIssued r.index n r.achieved) := by rw [State.raiseBay, hnotices]; rfl
  have hlen : (s.logCert n r f).certs.log.length = s.certs.log.length + 1 := by simp [State.logCert, State.setCerts]
  have hhigh : (s.logCert n r f).certs.highWater = s.certs.highWater := rfl
  have hold : (s.logCert n r f).certs.backlog = s.certs.backlog := rfl
  rw [State.issueTo, countIssue_eq, judgeBacklog_eq]
  simp only [hc, hn, hlen, hhigh, hold, State.issuedNotices]
  rfl

theorem counted_hold {u : CertUnit} {n : Nat} (h : u.hold = true) : u.counted n = { u with counter := min 255 (u.counter + 1) } :=
  if_neg (by simp [h])

theorem counted_stops {u : CertUnit} {n : Nat} (hh : u.hold = false)
    (h : (0 < u.period ∧ u.period ≤ min 255 (u.counter + 1)) ∨ n = 4294967295) : u.counted n = { u with hold := true, counter := 0 } :=
  if_pos ⟨hh, h⟩

theorem counted_goesOn {u : CertUnit} {n : Nat} (hp : ¬ (0 < u.period ∧ u.period ≤ min 255 (u.counter + 1))) (hn : n ≠ 4294967295) :
    u.counted n = { u with counter := min 255 (u.counter + 1) } := if_neg fun h => h.2.elim hp hn

/-- The count of an issue leaves number, log, list, backlog and settings. -/
theorem counted_keeps (u : CertUnit) (n : Nat) : (u.counted n).next = u.next ∧ (u.counted n).withheld = u.withheld ∧
    (u.counted n).log = u.log ∧ (u.counted n).backlog = u.backlog := by
  unfold CertUnit.counted
  split <;> exact ⟨rfl, rfl, rfl, rfl⟩

theorem lanes_markCertified_order {s : State} {n : Nat} {r : Comp} (f : Bool) (h : r.order ≠ none) :
    ((s.logCert n r f).markCertified n r).lanes =
      (s.setLane r.bay { s.lane r.bay with queue := (s.lane r.bay).queue ++ [{ index := r.index, kind := .fill }] }).lanes ∧
    ((s.logCert n r f).markCertified n r).ports =
      (s.setLane r.bay { s.lane r.bay with queue := (s.lane r.bay).queue ++ [{ index := r.index, kind := .fill }] }).ports := by
  rw [markCertified_order h]
  exact ⟨rfl, rfl⟩

/-- Settles O37. -/
theorem anIssueDoesItsItems : Obligations.AnIssueDoesItsItems := by
  intro n r f s t ht
  obtain ⟨hnext, hwithheld, hlog, hbacklog⟩ := counted_keeps (s.issuedCerts n r f) n
  obtain ⟨-, -, hutils, hstore, hmaps, hscans, hfree⟩ := markCertified_keeps (s.logCert n r f) n r
  have hframe : CascadeFrame s t := ht ▸ (CascadeFrame.refl s).issueTo n r f
  rw [issueTo_eq] at ht
  have hcerts : t.certs = (s.issuedCerts n r f).counted n := by rw [ht]
  have hnotices : t.notices = (s.issuedCerts n r f).countNotices (s.issuedNotices n r) n := by rw [ht]
  have htb : t.certs.backlog = decide (s.certs.highWater ≤ s.certs.log.length + 1) := by rw [hcerts, hbacklog]; rfl
  refine ⟨by rw [hcerts, hnext]; rfl, by rw [hcerts, hwithheld]; rfl, ⟨s.fillCert n r f, by rw [hcerts, hlog]; rfl, rfl, rfl, rfl, rfl, rfl,
      rfl, rfl, rfl, rfl, rfl, rfl, fun v hv => ?_, fun p hp => ?_, fun hf => ?_, fun v hv => ⟨?_, fun hf => ?_⟩⟩,
    by rw [ht]; exact records_markCertified _ n r, fun ho => ?_, fun u ho hu => ?_, htb, fun hh => ?_, fun hh h => ?_, fun hh hp hn => ?_,
    ⟨_, _, rfl, rfl, fun hh => ?_, fun hh hp => ?_, fun hh hp hn => ?_, fun hh hp hn => ?_⟩,
    by rw [ht]; exact hutils, by rw [ht]; exact hstore, by rw [ht]; exact hmaps, by rw [ht]; exact hscans, by rw [ht]; exact hfree, hframe⟩
  · simp only [State.fillCert, hv]
  · simp only [State.fillCert, Comp.programClass, hp]
  · simp only [State.fillCert, hf, if_true]
  · simp only [State.fillCert, hv]
  · simp [State.fillCert, hf, hv]
  · rw [ht, markCertified_noOrder ho]
    exact ⟨rfl, rfl⟩
  · rw [ht, hu]
    exact lanes_markCertified_order f ho
  · rw [hcerts, counted_hold (by exact hh)]
    exact ⟨hh, rfl⟩
  · rw [hcerts, counted_stops (by exact hh) (by exact h)]
    exact ⟨rfl, rfl⟩
  · rw [hcerts, counted_goesOn (by exact hp) hn]
    exact ⟨hh, rfl⟩
  all_goals rw [hnotices, htb]
  · exact if_pos hh
  · exact (if_neg (by simp [State.issuedCerts, hh])).trans (if_pos hp)
  · exact (if_neg (by simp [State.issuedCerts, hh])).trans ((if_neg hp).trans (if_pos hn))
  · exact (if_neg (by simp [State.issuedCerts, hh])).trans ((if_neg hp).trans (if_neg hn))

/-! ## Retirement, release and the drain -/

theorem answerCertRetire_refused {k : Byte} {s : State} (h : k.toNat = 0 ∨ 24 < k.toNat ∨ s.certs.log.length < k.toNat) :
    answerCertRetire k s = (s, .refuse .badValue) := by
  unfold answerCertRetire
  split
  · rfl
  · exact if_pos h

theorem log_judgeBacklog (s : State) : s.judgeBacklog.certs.log = s.certs.log := by rw [judgeBacklog_eq]

theorem answerCertRetire_retires {k : Byte} {c : Cert} {rest : List Cert} {s t u : State} (h1 : 1 ≤ k.toNat) (h24 : k.toNat ≤ 24)
    (hk : k.toNat ≤ s.certs.log.length) (hlog : s.certs.log = c :: rest)
    (ht : t = (s.setCerts { s.certs with log := s.certs.log.drop k.toNat }).judgeBacklog)
    (hu : u = if s.certs.hold = true then t else t.settle [.drain]) : answerCertRetire k s =
      (u, .ok (bytes4 c.number ++ [byte u.certs.log.length, byte (u.certs.log.length - (s.certs.log.length - k.toNat)),
        byte u.certs.withheld.length])) := by
  have hretire : s.retire k.toNat = t := ht.symm
  have hrange : ¬ (k.toNat = 0 ∨ 24 < k.toNat ∨ s.certs.log.length < k.toNat) := by omega
  have hhold : t.certs.hold = s.certs.hold := by rw [ht, judgeBacklog_eq]; rfl
  have hlen : t.certs.log.length = s.certs.log.length - k.toNat := by
    rw [ht, log_judgeBacklog, ← List.length_drop]
    rfl
  unfold answerCertRetire
  split
  · next hnil => simp [hnil] at hlog
  · next old rest' hcons =>
    obtain rfl : old = c := (List.cons.inj (hcons.symm.trans hlog)).1
    refine (if_neg hrange).trans ?_
    rw [hretire]
    dsimp only
    rw [hhold, hlen, ← hu]

/-- Settles O38. -/
theorem certRetireAndAuditReleaseDrainTheList : Obligations.CertRetireAndAuditReleaseDrainTheList := by
  refine ⟨fun tag k s hf => ⟨fun h => ?_, fun c rest t u h1 h24 hk hlog ht hu => ?_⟩, fun tag s hf => ⟨fun hh => ?_, fun hh hn => ?_,
    fun t hh hn ht => ?_⟩, fun w rest n r s hw hh hl hn hr => ?_, fun s h => ?_⟩
  · exact exec_answer (r := .certRetire k) rfl hf (.inl rfl) (answerCertRetire_refused h)
  · exact exec_answer (r := .certRetire k) rfl hf (.inl rfl) (answerCertRetire_retires h1 h24 hk hlog ht hu)
  · exact exec_answer (r := .auditRelease) rfl hf (.inl rfl) (if_pos hh)
  · have hnot : ¬ s.certs.hold = false := by simp [hh]
    exact exec_answer (r := .auditRelease) rfl hf (.inl rfl) ((if_neg hnot).trans (if_pos (Option.isNone_iff_eq_none.mpr hn)))
  · have hnot : ¬ s.certs.hold = false := by simp [hh]
    have hsome : ¬ s.certs.next.isNone = true := mt Option.isNone_iff_eq_none.mp hn
    subst ht
    exact exec_answer (r := .auditRelease) rfl hf (.inl rfl) ((if_neg hnot).trans (if_neg hsome))
  · have hcan : s.canIssue = true := (canIssue_iff s).mpr ⟨hh, hl, by simp [hn]⟩
    unfold act actDrain
    dsimp only
    split
    · next w' rest' n' hw' hn' =>
      obtain ⟨rfl, rfl⟩ := List.cons.inj (hw'.symm.trans hw)
      obtain rfl := Option.some.inj (hn'.symm.trans hn)
      refine (if_pos hcan).trans ?_
      split
      · next hr' => exact absurd (hr'.symm.trans hr) (by simp)
      · next r' hr' =>
        obtain rfl := Option.some.inj (hr'.symm.trans hr)
        rw [afterIssue_eq]
        rfl
    · next hnone => exact absurd hn (hnone w rest n hw)
  · have hcan : s.certs.withheld = [] ∨ ¬ s.canIssue = true ∨ s.certs.next = none := by
      rw [canIssue_iff]
      grind
    unfold act actDrain
    dsimp only
    split
    · next hw hn =>
      rcases hcan with h | h | h
      · simp [hw] at h
      · exact if_neg h
      · simp [hn] at h
    · rfl

end Sys2Proof.Machine
end

section
/-! PROOFS. The status reads and their records (11.5), MAP_READ and the scan orders (R93, R97, R113, R128, R152). -/

namespace Sys2Proof.Machine

/-! ## UTILITY_STATUS -/

/-- Picking the members of each bay in turn rearranges a list. -/
theorem flatMap_filter_lane_perm {α : Type} (lane : α → Bay) (xs : List α) :
    (allBays.flatMap fun b => xs.filter fun c => lane c == b).Perm xs := by
  induction xs with
  | nil => simp
  | cons x xs ih =>
    have hone : (allBays.flatMap fun b => [x].filter fun c => lane c == b) = [x] := by
      have hall : ∀ d : Bay, (allBays.flatMap fun b => if d == b then [x] else []) = [x] := fun d => by
        fin_cases d <;> rfl
      refine Eq.trans (congrArg (allBays.flatMap ·) (funext fun b => ?_)) (hall (lane x))
      rw [List.filter_singleton, Bool.cond_eq_ite]
    have hsplit : (allBays.flatMap fun b => (x :: xs).filter fun c => lane c == b) =
        allBays.flatMap fun b => ([x].filter fun c => lane c == b) ++ xs.filter fun c => lane c == b :=
      congrArg (allBays.flatMap ·) (funext fun b => List.filter_append (p := fun c => lane c == b) [x] xs)
    rw [hsplit]
    refine (List.flatMap_append_perm allBays _ _).symm.trans ?_
    rw [hone]
    exact ih.cons x

theorem grantsByLane_perm (x : Util) : x.grantsByLane.Perm x.grants := flatMap_filter_lane_perm Claim.lane x.grants

theorem grantsByLane_sorted (x : Util) : x.grantsByLane.Pairwise fun c d => c.lane ≤ d.lane := by
  have hbays : allBays.Pairwise (· < ·) := by decide
  have hin {b : Bay} {c : Claim} (h : c ∈ x.grants.filter fun c => c.lane == b) : c.lane = b := by
    simpa using (List.mem_filter.mp h).2
  refine List.pairwise_flatMap.mpr ⟨fun b _ => ?_, hbays.imp fun hlt c hc d hd => ?_⟩
  · exact List.pairwise_iff_forall_sublist.mpr fun {c d} h =>
      le_of_eq ((hin (h.subset (by simp))).trans (hin (h.subset (by simp))).symm)
  · rw [hin hc, hin hd]
    exact hlt.le

theorem orAbsent_cargo (c : Option Cargo) : byte (cargoCode c) = orAbsent (c.map Fin.val) := by cases c <;> rfl

theorem priorCode_eq (p : Option Cargo) : priorCode p = (p.map Fin.val).getD 0x10 := by cases p <;> rfl

theorem claimBytes_length (c : Claim) (grant : Bool) : (c.bytes grant).length = 6 := rfl

theorem flatMap_length_const {α β : Type} (f : α → List β) (n : Nat) (h : ∀ a, (f a).length = n) (xs : List α) :
    (xs.flatMap f).length = n * xs.length := by
  rw [List.length_flatMap, List.map_congr_left fun a _ => h a, List.map_const', List.sum_replicate, smul_eq_mul, Nat.mul_comm]

theorem utilBytes_length (u : UtilId) (s : State) :
    (s.utilBytes u).length = 10 + 6 * ((s.util u).grants.length + (s.util u).claims.length) := by
  have hg := flatMap_length_const (fun c : Claim => c.bytes true) 6 (fun c => claimBytes_length c true) (s.util u).grantsByLane
  have hc := flatMap_length_const (fun c : Claim => c.bytes false) 6 (fun c => claimBytes_length c false) (s.util u).claims
  rw [(grantsByLane_perm (s.util u)).length_eq] at hg
  simp only [State.utilBytes, List.length_append, hg, hc, bytes4, List.length_cons, List.length_nil]
  omega

/-- UTILITY_STATUS is Limited while some arrival counter stands at its maximum (R128). -/
theorem utilityStatus_limited (s : State) : (allUtils.any fun u => (s.util u).counter == Config.max32) =
    decide (∃ u : Fin 7, s.utils[u].counter = 4294967295) := by
  rw [Bool.eq_iff_iff, decide_eq_true_iff, List.any_eq_true]
  constructor
  · rintro ⟨u, -, hu⟩
    exact ⟨utilIx u, by simpa [State.util, Config.max32] using hu⟩
  · rintro ⟨i, hi⟩
    have honto : ∀ i : Fin 7, ∃ u ∈ allUtils, utilIx u = i := by decide
    obtain ⟨u, hin, rfl⟩ := honto i
    exact ⟨u, hin, by simpa [State.util, Config.max32] using hi⟩

theorem utilBytes_layout (u : UtilId) (s : State) (x : Util) (hx : x = s.util u) : ∃ gs : List Claim, gs.Perm x.grants ∧
    gs.Pairwise (fun c d => c.lane ≤ d.lane) ∧
    s.utilBytes u = [byte (utilCode u), byte x.capacity,
        byte ((if x.offline then 1 else 0) + (if x.fault then 2 else 0) + (if x.inService then 4 else 0)), orAbsent (x.cargo.map Fin.val)] ++
      bytes4 x.counter ++ [byte x.grants.length, byte x.claims.length] ++
      (gs.flatMap fun c => byte (c.lane.val + 1) :: byte (if c.urgent then 1 else 0) :: bytes4 c.arrival) ++
      (x.claims.flatMap fun c =>
        byte (c.lane.val + 1) :: byte ((if c.urgent then 1 else 0) + (if c.kept then 2 else 0)) :: bytes4 c.arrival) := by
  subst hx
  refine ⟨(s.util u).grantsByLane, grantsByLane_perm _, grantsByLane_sorted _, ?_⟩
  have hgrant : (fun c : Claim => c.bytes true) =
      fun c => byte (c.lane.val + 1) :: byte (if c.urgent then 1 else 0) :: bytes4 c.arrival := by
    funext c
    rw [Claim.bytes, Bool.not_true, Bool.and_false]
    rfl
  have hclaim : (fun c : Claim => c.bytes false) =
      fun c => byte (c.lane.val + 1) :: byte ((if c.urgent then 1 else 0) + (if c.kept then 2 else 0)) :: bytes4 c.arrival := by
    funext c
    rw [Claim.bytes, Bool.not_false, Bool.and_true]
    rfl
  rw [State.utilBytes, hgrant, hclaim, orAbsent_cargo]

/-! ## BAY_STATUS and COMPARTMENT_STATUS -/

theorem visitBytes_eq (v : Option Visit) : visitBytes v = match v with
    | none => [0, 0, 0, 0, 0, 0]
    | some v => 1 :: bytes3 v.fleet ++ [flag v.urgent, byte v.count] := by cases v <;> rfl

theorem visitBytes_length (v : Option Visit) : (visitBytes v).length = 6 := by cases v <;> rfl

theorem bayStatusBytes_length (b : Bay) (s : State) : (s.bayStatusBytes b).length = 25 + 2 * (s.lane b).queue.length := by
  have hq := flatMap_length_const (fun e : QEntry => [byte e.index, byte e.kind.code]) 2 (fun _ => rfl) (s.lane b).queue
  simp only [State.bayStatusBytes, List.length_append, visitBytes_length, hq, bytes2, List.length_cons, List.length_nil]
  omega

theorem answerBayStatus_bay {bay : Byte} {b : Bay} (h : bay.toNat = b.val + 1) (s : State) : answerBayStatus bay s =
    (s, { result := .ok, fields := s.bayStatusBytes b, prior := false,
          limited := decide ((s.lane b).delivered = 65535 ∨ (s.lane b).noFlow = 255 ∨ (s.lane b).cold = 255 ∨ (s.lane b).timer = 255) }) := by
  simp only [answerBayStatus, (bay?_eq_some_iff bay b).mpr h, Bool.decide_or, Bool.or_assoc]
  rfl

theorem answerCompartmentStatus_unread {bay index : Byte} (h : bay? bay = none ∨ index? index = none) (s : State) :
    answerCompartmentStatus bay index s = (s, .refuse .badValue) := by
  unfold answerCompartmentStatus
  split
  · next hb hk => simp [hb, hk] at h
  · rfl

theorem answerCompartmentStatus_placed {bay index : Byte} {b : Bay} {k : Nat} (hb : bay? bay = some b) (hk : index? index = some k)
    (s : State) : answerCompartmentStatus bay index s = match s.findRecord b k with
      | .error e => (s, .refuse e)
      | .ok r => (s, { result := .ok, fields := r.bytes, limited := r.saturated, prior := false }) := by
  simp only [answerCompartmentStatus, hb, hk] <;> cases s.findRecord b k <;> rfl

theorem saturated_eq (r : Comp) : r.saturated =
    decide (r.filled = 65535 ∨ r.water = 65535 ∨ r.chemical = 65535 ∨ r.steam = 65535 ∨ r.dryer = 65535) := by
  simp only [Comp.saturated, Bool.decide_or, Bool.or_assoc]
  rfl

theorem programBytes_eq (p : Option Program) : Program.bytes? p = match p with
    | none => [0, 0, 0, 0, 0]
    | some { head := h, chain := .follow, cls := c } => [1, byte h.val, 0, 0, byte c]
    | some { head := h, chain := .bounded x, cls := c } => [1, byte h.val, 1, byte x.val, byte c] := by
  rcases p with _ | ⟨h, chain, c⟩
  · rfl
  · cases chain <;> rfl

theorem verdictBytes_eq (v : Option VerdictRec) : VerdictRec.bytes? v = match v with
    | none => [0, 0, 0, 0, 0]
    | some v => [1, byte v.maxGrade, byte v.overCount, byte ((v.outcome.map Judgement.code).getD 0), byte v.index] := by
  rcases v with _ | ⟨m, c, outcome, i⟩
  · rfl
  · cases outcome <;> rfl

theorem numberBytes_eq (n : Option Nat) : numberBytes? n = match n with
    | none => [0, 0, 0, 0, 0]
    | some n => 1 :: bytes4 n := by cases n <;> rfl

theorem orderBytes_eq (o : Option FillOrder) : FillOrder.bytes? o = match o with
    | none => [0, 0, 0, 0]
    | some o => 1 :: byte o.cargo.val :: bytes2 o.target := by cases o <;> rfl

theorem comp_bytes_length (r : Comp) : r.bytes.length = 36 := by
  have hp : (Program.bytes? r.program).length = 5 := by cases r.program <;> rfl
  have hv : (VerdictRec.bytes? r.verdict).length = 5 := by cases r.verdict <;> rfl
  have hn : (numberBytes? r.cert).length = 5 := by cases r.cert <;> rfl
  have ho : (FillOrder.bytes? r.order).length = 4 := by cases r.order <;> rfl
  simp only [Comp.bytes, List.length_append, hp, hv, hn, ho, bytes2, List.length_cons, List.length_nil]

/-! ## CERT_READ -/

theorem answerCertRead_refused {count : Byte} (h : count.toNat = 0 ∨ 4 < count.toNat) (s : State) :
    answerCertRead count s = (s, .refuse .badValue) := if_neg (by omega)

theorem answerCertRead_reads {count : Byte} (h1 : 1 ≤ count.toNat) (h4 : count.toNat ≤ 4) (s : State) : answerCertRead count s =
    (s, { result := .ok, prior := false,
          fields := s.certs.summary (min count.toNat s.certs.log.length) ++ (s.certs.log.take count.toNat).flatMap Cert.bytes,
          limited := (s.certs.log.take count.toNat).any Cert.saturated || decide (s.certs.counter = 255) }) := by
  refine (if_pos ⟨h1, h4⟩).trans ?_
  rw [← List.length_take]
  rfl

theorem cert_saturated_eq (c : Cert) :
    c.saturated = decide (c.water = 65535 ∨ c.chemical = 65535 ∨ c.steam = 65535 ∨ c.dryer = 65535) := by
  simp only [Cert.saturated, Bool.decide_or, Bool.or_assoc]
  rfl

/-- Settles O39. -/
theorem statusReadsAnswerTheRecords : Obligations.StatusReadsAnswerTheRecords := by
  refine ⟨fun l tag s hf => ?_, utilBytes_length, fun l tag bay s hf => ⟨fun h => ?_, fun b h => ?_⟩, bayStatusBytes_length,
    fun l tag bay index s hf => ⟨fun h => ?_, fun b k hb hk hv => ?_, fun b k v hb hk hv hlt => ?_, fun b k r hb hk hn => ?_⟩,
    comp_bytes_length, fun l tag count s hf => ⟨fun h => ?_, fun h1 h4 => ?_⟩, cert_saturated_eq, fun c => rfl, fun u n => rfl,
    ⟨rfl, rfl, rfl, fun n => rfl⟩, utilBytes_layout, fun b s m hm => ?_, fun r => ?_, fun c => ?_, fun u n => ?_, rfl, rfl, rfl⟩
  · rw [← utilityStatus_limited]
    exact exec_answer (r := .utilityStatus) rfl hf (.inr rfl) rfl
  · exact exec_answer (r := .bayStatus bay) rfl hf (.inr rfl) (by simp only [answer, answerBayStatus, (bay?_eq_none_iff bay).mpr h])
  · exact exec_answer (r := .bayStatus bay) rfl hf (.inr rfl) (answerBayStatus_bay h s)
  · exact exec_answer (r := .compartmentStatus bay index) rfl hf (.inr rfl) (answerCompartmentStatus_unread h s)
  · exact exec_answer (r := .compartmentStatus bay index) rfl hf (.inr rfl)
      ((answerCompartmentStatus_placed hb hk s).trans (by rw [findRecord_noVisit hv]))
  · exact exec_answer (r := .compartmentStatus bay index) rfl hf (.inr rfl)
      ((answerCompartmentStatus_placed hb hk s).trans (by rw [findRecord_beyond hv hlt]))
  · exact exec_answer (r := .compartmentStatus bay index) rfl hf (.inr rfl)
      ((answerCompartmentStatus_placed hb hk s).trans (by rw [findRecord_names hn, ← saturated_eq]))
  · exact exec_answer (r := .certRead count) rfl hf (.inr rfl) (answerCertRead_refused h s)
  · exact exec_answer (r := .certRead count) rfl hf (.inr rfl) (answerCertRead_reads h1 h4 s)
  · subst hm
    rw [State.bayStatusBytes, visitBytes_eq] <;> rfl
  · rw [Comp.bytes, programBytes_eq, verdictBytes_eq, numberBytes_eq, orderBytes_eq, priorCode_eq] <;> rfl
  · rw [Cert.bytes, priorCode_eq] <;> rfl
  · simp only [CertUnit.summary, Option.isNone_iff_eq_none]
    rfl

end Sys2Proof.Machine
end

section
/-! PROOFS. The scan orders over a window and MAP_READ (R95 to R97, R113). -/

namespace Sys2Proof.Machine

/-! ## The rings and the sectors of a window -/

/-- The members of `Fin n` from `a` to `b`, upward: a window's rings and its sectors. -/
def finsUpTo {n : Nat} (a b : Fin n) : List (Fin n) := (upTo a.val b.val).filterMap fun m => if h : m < n then some ⟨m, h⟩ else none

theorem rings_eq (w : Window) : w.rings = finsUpTo w.firstRing w.lastRing := rfl
theorem sectors_eq (w : Window) : w.sectors = finsUpTo w.firstSector w.lastSector := rfl

section
variable {n : Nat} (a b : Fin n)

theorem upTo_mem (a b m : Nat) : m ∈ upTo a b ↔ a ≤ m ∧ m ≤ b := by
  rw [upTo, List.mem_map]
  constructor
  · rintro ⟨i, hi, rfl⟩
    have := List.mem_range.mp hi
    omega
  · exact fun ⟨h1, h2⟩ => ⟨m - a, List.mem_range.mpr (by omega), by omega⟩

theorem finsUpTo_val : (finsUpTo a b).map Fin.val = upTo a.val b.val := by
  rw [finsUpTo, List.map_filterMap]
  refine Eq.trans (List.filterMap_congr fun m hm => ?_) (List.filterMap_some)
  have hlt : m < n := by have := (upTo_mem a.val b.val m).mp hm; omega
  rw [dif_pos hlt]
  rfl

theorem finsUpTo_mem (m : Fin n) : m ∈ finsUpTo a b ↔ a ≤ m ∧ m ≤ b := by
  have h : m ∈ finsUpTo a b ↔ m.val ∈ (finsUpTo a b).map Fin.val :=
    (List.mem_map_of_injective Fin.val_injective).symm
  rw [h, finsUpTo_val, upTo_mem]
  rfl

theorem finsUpTo_sorted : (finsUpTo a b).Pairwise (· < ·) := by
  have h : ((finsUpTo a b).map Fin.val).Pairwise (· < ·) := by
    rw [finsUpTo_val, upTo]
    exact List.pairwise_map.mpr (List.pairwise_lt_range.imp fun h => by omega)
  exact (List.pairwise_map (f := Fin.val)).mp h

theorem finsUpTo_length (h : a ≤ b) : (finsUpTo a b).length = b.val - a.val + 1 := by
  rw [← List.length_map (f := Fin.val), finsUpTo_val, upTo, List.length_map, List.length_range]
  have : a.val ≤ b.val := h
  omega

theorem finsUpTo_head (h : a ≤ b) : (finsUpTo a b).head? = some a := by
  have hab : a.val ≤ b.val := h
  have hval : ((finsUpTo a b).map Fin.val).head? = some a.val := by
    rw [finsUpTo_val, upTo, List.head?_map, List.head?_range, if_neg (by omega)]
    rfl
  rw [List.head?_map] at hval
  obtain ⟨m, hm, hv⟩ := Option.map_eq_some_iff.mp hval
  rw [hm, Fin.ext hv]

theorem finsUpTo_last (h : a ≤ b) : (finsUpTo a b).getLast? = some b := by
  have hab : a.val ≤ b.val := h
  have hval : ((finsUpTo a b).map Fin.val).getLast? = some b.val := by
    rw [finsUpTo_val, upTo, List.getLast?_map, List.getLast?_range, if_neg (by omega)]
    exact congrArg some (show a.val + (b.val + 1 - a.val - 1) = b.val by omega)
  rw [List.getLast?_map] at hval
  obtain ⟨m, hm, hv⟩ := Option.map_eq_some_iff.mp hval
  rw [hm, Fin.ext hv]

end

/-! ## Sweeps -/

/-- An outer sweep with an inner sweep at each of its members. -/
def sweep {α β γ : Type} (outer : List α) (inner : List β) (f : α → β → γ) : List γ := outer.flatMap fun x => inner.map (f x)

theorem sweep_head {α β γ : Type} {outer : List α} {inner : List β} {f : α → β → γ} {x : α} {y : β} (hx : outer.head? = some x)
    (hy : inner.head? = some y) : (sweep outer inner f)[0]? = some (f x y) := by
  obtain ⟨xs, rfl⟩ := List.head?_eq_some_iff.mp hx
  obtain ⟨ys, rfl⟩ := List.head?_eq_some_iff.mp hy
  rfl

theorem sweep_length {α β γ : Type} (outer : List α) (inner : List β) (f : α → β → γ) :
    (sweep outer inner f).length = outer.length * inner.length := by
  rw [sweep, flatMap_length_const _ inner.length (fun _ => List.length_map _), Nat.mul_comm]

/-- The order of a sweep: by the outer members, and within one of them by the inner. -/
theorem sweep_pairwise {α β γ : Type} {outer : List α} {inner : List β} {f : α → β → γ} {R : α → α → Prop} {S : β → β → Prop}
    {T : γ → γ → Prop} (ho : outer.Pairwise R) (hi : inner.Pairwise S) (hR : ∀ x x' y y', R x x' → T (f x y) (f x' y'))
    (hS : ∀ x y y', S y y' → T (f x y) (f x y')) : (sweep outer inner f).Pairwise T := by
  refine List.pairwise_flatMap.mpr ⟨fun x _ => List.pairwise_map.mpr (hi.imp (hS x _ _)), ho.imp fun hx z hz z' hz' => ?_⟩
  obtain ⟨y, -, rfl⟩ := List.mem_map.mp hz
  obtain ⟨y', -, rfl⟩ := List.mem_map.mp hz'
  exact hR _ _ y y' hx

theorem sweep_mem {α β γ : Type} (outer : List α) (inner : List β) (f : α → β → γ) (z : γ) :
    z ∈ sweep outer inner f ↔ ∃ x ∈ outer, ∃ y ∈ inner, f x y = z := by
  simp only [sweep, List.mem_flatMap, List.mem_map]

/-- A ring and a sector as a zone, and the same with the sector first. -/
def zoneAt (r : Fin 16) (c : Fin 12) : Zone := { ring := r, sector := c }

theorem scanZones_ringUp (w : Window) : scanZones w .ringUp = sweep w.rings w.sectors zoneAt := rfl
theorem scanZones_ringDown (w : Window) : scanZones w .ringDown = sweep w.rings.reverse w.sectors zoneAt := rfl
theorem scanZones_sectorUp (w : Window) : scanZones w .sectorUp = sweep w.sectors w.rings fun c r => zoneAt r c := rfl
theorem scanZones_sectorDown (w : Window) : scanZones w .sectorDown = sweep w.sectors.reverse w.rings fun c r => zoneAt r c := rfl

/-- The place of a zone in a scan order (R97). -/
def ScanOrder.goesFirst (o : ScanOrder) (x y : Zone) : Prop := match o with
  | .ringUp => x.ring < y.ring ∨ (x.ring = y.ring ∧ x.sector < y.sector)
  | .ringDown => y.ring < x.ring ∨ (x.ring = y.ring ∧ x.sector < y.sector)
  | .sectorUp => x.sector < y.sector ∨ (x.sector = y.sector ∧ x.ring < y.ring)
  | .sectorDown => y.sector < x.sector ∨ (x.sector = y.sector ∧ x.ring < y.ring)

theorem goesFirst_irrefl (o : ScanOrder) (x : Zone) : ¬ o.goesFirst x x := by
  cases o <;> simp [ScanOrder.goesFirst]

theorem scanZones_sorted (w : Window) (o : ScanOrder) : (scanZones w o).Pairwise o.goesFirst := by
  have hr := finsUpTo_sorted w.firstRing w.lastRing
  have hc := finsUpTo_sorted w.firstSector w.lastSector
  cases o with
  | ringUp => exact sweep_pairwise hr hc (fun _ _ _ _ h => .inl h) fun _ _ _ h => .inr ⟨rfl, h⟩
  | ringDown => exact sweep_pairwise (List.pairwise_reverse.mpr hr) hc (fun _ _ _ _ h => .inl h) fun _ _ _ h => .inr ⟨rfl, h⟩
  | sectorUp => exact sweep_pairwise hc hr (fun _ _ _ _ h => .inl h) fun _ _ _ h => .inr ⟨rfl, h⟩
  | sectorDown => exact sweep_pairwise (List.pairwise_reverse.mpr hc) hr (fun _ _ _ _ h => .inl h) fun _ _ _ h => .inr ⟨rfl, h⟩

/-- Each scan order visits every zone of the window. -/
theorem mem_scanZones (w : Window) (o : ScanOrder) (z : Zone) : z ∈ scanZones w o ↔
    w.firstRing ≤ z.ring ∧ z.ring ≤ w.lastRing ∧ w.firstSector ≤ z.sector ∧ z.sector ≤ w.lastSector := by
  have hr := finsUpTo_mem w.firstRing w.lastRing
  have hc := finsUpTo_mem w.firstSector w.lastSector
  have hrc : z ∈ sweep w.rings w.sectors zoneAt ↔ z.ring ∈ w.rings ∧ z.sector ∈ w.sectors := by
    rw [sweep_mem]
    exact ⟨fun ⟨r, hr, c, hc, h⟩ => h ▸ ⟨hr, hc⟩, fun ⟨hr, hc⟩ => ⟨_, hr, _, hc, rfl⟩⟩
  have hcr : z ∈ (sweep w.sectors w.rings fun c r => zoneAt r c) ↔ z.ring ∈ w.rings ∧ z.sector ∈ w.sectors := by
    rw [sweep_mem]
    exact ⟨fun ⟨c, hc, r, hr, h⟩ => h ▸ ⟨hr, hc⟩, fun ⟨hr, hc⟩ => ⟨_, hc, _, hr, rfl⟩⟩
  have hboth : z.ring ∈ w.rings ∧ z.sector ∈ w.sectors ↔
      w.firstRing ≤ z.ring ∧ z.ring ≤ w.lastRing ∧ w.firstSector ≤ z.sector ∧ z.sector ≤ w.lastSector := by
    rw [rings_eq, sectors_eq, hr, hc, and_assoc]
  rw [← hboth]
  cases o with
  | ringUp => exact hrc
  | ringDown => rw [← hrc, scanZones_ringDown, sweep_mem, sweep_mem]; simp only [List.mem_reverse]
  | sectorUp => exact hcr
  | sectorDown => rw [← hcr, scanZones_sectorDown, sweep_mem, sweep_mem]; simp only [List.mem_reverse]

/-- The zone a scan begins with (R99). -/
theorem scanZones_first {w : Window} (o : ScanOrder) (hr : w.firstRing ≤ w.lastRing) (hc : w.firstSector ≤ w.lastSector) :
    (scanZones w o)[0]? = some (firstZone w o) := by
  have hr0 := finsUpTo_head _ _ hr
  have hc0 := finsUpTo_head _ _ hc
  cases o with
  | ringUp => exact sweep_head hr0 hc0
  | ringDown => exact sweep_head (List.head?_reverse.trans (finsUpTo_last _ _ hr)) hc0
  | sectorUp => exact sweep_head (f := fun c r => zoneAt r c) hc0 hr0
  | sectorDown => exact sweep_head (f := fun c r => zoneAt r c) (List.head?_reverse.trans (finsUpTo_last _ _ hc)) hr0

theorem scanZones_length {w : Window} (o : ScanOrder) (hr : w.firstRing ≤ w.lastRing) (hc : w.firstSector ≤ w.lastSector) :
    (scanZones w o).length = (w.lastRing.val - w.firstRing.val + 1) * (w.lastSector.val - w.firstSector.val + 1) := by
  rw [← finsUpTo_length _ _ hr, ← finsUpTo_length _ _ hc]
  cases o with
  | ringUp => exact sweep_length _ _ _
  | ringDown => exact (sweep_length _ _ _).trans (by rw [List.length_reverse]; rfl)
  | sectorUp => exact (sweep_length _ _ _).trans (Nat.mul_comm _ _)
  | sectorDown => exact (sweep_length _ _ _).trans ((Nat.mul_comm _ _).trans (by rw [List.length_reverse]; rfl))

/-- Settles O49. -/
theorem scanOrdersListEachZoneOnceInOrder : Obligations.ScanOrdersListEachZoneOnceInOrder := by
  refine ⟨fun w o => ⟨(scanZones_sorted w o).imp fun {x y} h => ?_, mem_scanZones w o,
    fun hr hc => ⟨scanZones_first o hr hc, scanZones_length o hr hc⟩, ?_⟩, fun z => rfl, by decide⟩
  · exact fun e => goesFirst_irrefl o x (by rw [← e] at h; exact h)
  · have h := scanZones_sorted w o
    cases o <;> exact h

/-! ## MAP_READ -/

/-- The byte of the zone at a place of a map (11.4). -/
def mapByte (m : ResidueMap) (i : Nat) : Byte := match m[i]? with
  | some (some g) => byte g.val
  | _ => 0xFF

theorem zoneByte_eq (m : ResidueMap) (r : Fin 16) (c : Fin 12) :
    zoneByte m[zoneIx (zoneAt r c)] = mapByte m (r.val * 12 + c.val) := by
  have hix : (zoneIx (zoneAt r c)).val = r.val * 12 + c.val := rfl
  have hget : m[r.val * 12 + c.val]? = some m[zoneIx (zoneAt r c)] := by
    rw [← hix]
    exact Vector.getElem?_eq_getElem _
  rw [mapByte, hget]
  cases m[zoneIx (zoneAt r c)] <;> rfl

/-- The zones of a window, ring by ring, as MAP_READ lays them out. -/
theorem zoneBytes_eq (m : ResidueMap) (w : Window) : ((scanZones w .ringUp).map fun z => zoneByte m[zoneIx z]) =
    (upTo w.firstRing.val w.lastRing.val).flatMap fun r => (upTo w.firstSector.val w.lastSector.val).map fun c => mapByte m (r * 12 + c) := by
  have hinner (r : Fin 16) : ((w.sectors.map (zoneAt r)).map fun z => zoneByte m[zoneIx z]) =
      (upTo w.firstSector.val w.lastSector.val).map fun c => mapByte m (r.val * 12 + c) := by
    rw [← finsUpTo_val, List.map_map, List.map_map, sectors_eq]
    exact List.map_congr_left fun c _ => zoneByte_eq m r c
  rw [scanZones_ringUp, sweep, List.map_flatMap, ← finsUpTo_val w.firstRing, List.flatMap_map, rings_eq]
  exact congrArg (List.flatMap · _) (funext hinner)

theorem scanBlock_length (x : Option Scan) : (scanBlock x).length = 10 := by cases x <;> rfl

theorem answerMapRead_refused {bay r0 r1 c0 c1 : Byte} (h : bay.toNat = 0 ∨ 6 < bay.toNat ∨ 15 < r1.toNat ∨ 11 < c1.toNat ∨
    r1.toNat < r0.toNat ∨ c1.toNat < c0.toNat) (s : State) : answerMapRead bay r0 r1 c0 c1 s = (s, .refuse .badValue) := by
  unfold answerMapRead
  split
  · next b ra rb ca cb hb hr0 hr1 hc0 hc1 =>
    have hbay := (bay?_eq_some_iff bay b).mp hb
    have hra := (ring?_eq_some_iff r0 ra).mp hr0
    have hrb := (ring?_eq_some_iff r1 rb).mp hr1
    have hca := (sector?_eq_some_iff c0 ca).mp hc0
    have hcb := (sector?_eq_some_iff c1 cb).mp hc1
    exact if_neg (by omega)
  · rfl

theorem answerMapRead_window {bay r0 r1 c0 c1 : Byte} {b : Bay} (hb : bay.toNat = b.val + 1) (hr : r0.toNat ≤ r1.toNat)
    (hr15 : r1.toNat ≤ 15) (hc : c0.toNat ≤ c1.toNat) (hc11 : c1.toNat ≤ 11) (s : State) : answerMapRead bay r0 r1 c0 c1 s =
      (s, .ok (scanBlock (s.scan b) ++ (upTo r0.toNat r1.toNat).flatMap fun r => (upTo c0.toNat c1.toNat).map fun c =>
        mapByte (s.residue b) (r * 12 + c))) := by
  have hr0 : ring? r0 = some ⟨r0.toNat, by omega⟩ := (ring?_eq_some_iff r0 _).mpr rfl
  have hr1 : ring? r1 = some ⟨r1.toNat, by omega⟩ := (ring?_eq_some_iff r1 _).mpr rfl
  have hc0 : sector? c0 = some ⟨c0.toNat, by omega⟩ := (sector?_eq_some_iff c0 _).mpr rfl
  have hc1 : sector? c1 = some ⟨c1.toNat, by omega⟩ := (sector?_eq_some_iff c1 _).mpr rfl
  simp only [answerMapRead, (bay?_eq_some_iff bay b).mpr hb, hr0, hr1, hc0, hc1, hr, hc, and_self, if_true, zoneBytes_eq]

/-- Settles O40. -/
theorem mapReadAnswersTheZonesRingByRing : Obligations.MapReadAnswersTheZonesRingByRing := by
  refine fun l tag bay r0 r1 c0 c1 s hf => ⟨fun h => ?_, fun b hb hr hr15 hc hc11 => ⟨scanBlock (s.scan b), scanBlock_length _, fun hx => ?_,
    fun x hx => ?_, ?_⟩, rfl⟩
  · exact exec_answer (r := .mapRead bay r0 r1 c0 c1) rfl hf (.inr rfl) (answerMapRead_refused h s)
  · rw [hx]
    rfl
  · rw [hx]
    rfl
  · have h := answerMapRead_window hb hr hr15 hc hc11 s
    simp only [upTo, List.flatMap_map, List.map_map] at h
    exact exec_answer (r := .mapRead bay r0 r1 c0 c1) rfl hf (.inr rfl) h

end Sys2Proof.Machine
end

section
/-! PROOFS. Aborts (R82, R84) and hold causes (R86 to R89). -/

namespace Sys2Proof.Machine

/-! ## What a lane holds -/

theorem holds_iff (x : Util) (b : Bay) : x.holds b = true ↔ ∃ c ∈ x.grants ++ x.claims, c.lane = b := by
  simp only [Util.holds, Bool.or_eq_true, List.any_eq_true, beq_iff_eq, List.mem_append]
  grind

theorem mem_allUtils (u : UtilId) : u ∈ allUtils := by cases u <;> decide

theorem holding_eq_none_iff (s : State) (b : Bay) :
    s.holding b = none ↔ ∀ u, ∀ c ∈ (s.util u).grants ++ (s.util u).claims, c.lane ≠ b := by
  rw [State.holding, List.find?_eq_none]
  simp only [holds_iff, not_exists, not_and]
  exact ⟨fun h u => h u (mem_allUtils u), fun h u _ => h u⟩

theorem holding_holds {s : State} {b : Bay} {u : UtilId} (h : s.holding b = some u) :
    ∃ c ∈ (s.util u).grants ++ (s.util u).claims, c.lane = b :=
  (holds_iff _ _).mp (List.find?_some (p := fun u => (s.util u).holds b) h)

theorem release_none {s : State} {b : Bay} (h : s.holding b = none) : s.release b = (s, []) := by
  simp only [State.release, h]

theorem release_some {s : State} {b : Bay} {u : UtilId} (h : s.holding b = some u) :
    s.release b = (s.setUtil u ((s.util u).drop b), [.judge u]) := by
  simp only [State.release, h]

/-! ## ABORT -/

theorem answerAbort_bay {bay : Byte} {b : Bay} {s : State} (hm : s.mode ≠ .dormant) (hb : bay.toNat = b.val + 1) : answerAbort bay s =
    if (s.lane b).st ≠ .idle ∧ (s.lane b).service = some .wash then
      (s.settle [.abort b .aborted], .ok [byte (s.servedIndex b)])
    else (s, .refuse .wrongState) := by
  simp only [answerAbort, if_neg hm, (bay?_eq_some_iff bay b).mpr hb]

/-- The machine after items 2 to 4 of an abort, before its FAULT (R82). -/
def State.abortedLane (s : State) (b : Bay) (why : Reason) : State :=
  (((s.setPin b none).setScan b none).modServed b fun r => r.abortedFor why (s.lane b).anyLitres).setLane b (s.lane b).toIdle

theorem act_aborted (b : Bay) (why : Reason) (s : State) :
    act (.aborted b why) s = ((s.abortedLane b why).raiseBay b (.fault why (s.servedIndex b) (s.lane b).index), [.idle b]) := rfl

/-- An abort reaches its own bay's lane, port and scan alone. -/
theorem abortedLane_other (s : State) {b c : Bay} (why : Reason) (h : c ≠ b) : (s.abortedLane b why).lane c = s.lane c ∧
    (s.abortedLane b why).port c = s.port c ∧ (s.abortedLane b why).scan c = s.scan c := by
  refine ⟨?_, ?_, ?_⟩
  · rw [State.abortedLane, lane_setLane_other _ _ h.symm, lane_modServed]
    rfl
  · rw [State.abortedLane, port_setLane_other _ _ h.symm, State.port, ports_modServed]
    rfl
  · rw [State.abortedLane, State.scan, scans_setLane, scans_modServed]
    exact scan_setScan_other (s.setPin b none) none h

theorem lane_abortedLane (s : State) (b : Bay) (why : Reason) : (s.abortedLane b why).lane b =
    { s.lane b with st := .idle, current := none, service := none, ret := none, starveRelease := false,
                    orders := { lance := (s.lane b).orders.lance, supply := none, drain := true, fill := false, probe := false } } := by
  rw [State.abortedLane, lane_setLane, ordersOf_idle _ rfl]
  rfl

theorem port_abortedLane (s : State) (b : Bay) (why : Reason) :
    (s.abortedLane b why).port b = (s.setLane b ((s.abortedLane b why).lane b)).port b := by
  rw [lane_abortedLane, port_setLane, ordersOf_idle _ rfl, State.abortedLane, port_setLane, ordersOf_idle _ rfl, lane_modServed, State.port,
    ports_modServed]
  rfl

theorem frame_abortedLane (s : State) (b : Bay) (why : Reason) : CascadeFrame s (s.abortedLane b why) :=
  ((((CascadeFrame.refl s).setPin b none).setScan b none).modServed b _).setLane b _

/-- Settles O43. -/
theorem abortMakesTheRecordDirtyAndTheLaneIdle : Obligations.AbortMakesTheRecordDirtyAndTheLaneIdle := by
  refine ⟨fun l tag bay b s hf hm hb => ⟨fun k hst hw hc => ?_, fun h => ?_⟩, fun b why s => rfl,
    fun b s => ⟨holding_eq_none_iff s b, fun u => holding_holds⟩, fun b s => ⟨release_none, fun u => release_some⟩,
    fun b why k r s hc hr => ⟨s.abortedLane b why, ?_, lane_abortedLane s b why, port_abortedLane s b why, ?_, ?_, ?_, ?_, ?_, ?_, ?_,
      fun c h => abortedLane_other s why h, ?_, frame_abortedLane s b why⟩⟩
  · have h := (answerAbort_bay hm hb).trans (if_pos ⟨hst, hw⟩)
    rw [servedIndex_eq hc] at h
    exact exec_answer (r := .abort bay) rfl hf (.inr rfl) h
  · exact exec_answer (r := .abort bay) rfl hf (.inr rfl) ((answerAbort_bay hm hb).trans (if_neg (by grind)))
  · rw [act_aborted, servedIndex_eq hc]
  · rw [State.abortedLane, records_setLane, modServed_eq (by exact hc), modRecord_eq]
    rfl
  · rw [State.abortedLane, store_setLane, store_modServed]
    rfl
  · rw [State.abortedLane, State.scan, scans_setLane, scans_modServed]
    exact scan_setScan (s.setPin b none) b none
  all_goals simp [State.abortedLane]

/-! ## Hold causes -/

theorem isEmpty_iff (h : Holds) : h.isEmpty = true ↔ h = Holds.none := by
  obtain ⟨host, lockout, stop⟩ := h
  cases host <;> cases lockout <;> cases stop <;> simp [Holds.isEmpty, Holds.none]

theorem has_none (c : Cause) : Holds.none.has c = false := by cases c <;> rfl

theorem lanceOk_iff (s : State) (b : Bay) :
    s.lanceOk b = true ↔ (s.lane b).current ≠ none ∧ (s.lane b).seated = (s.lane b).current := by
  rw [State.lanceOk, Bool.and_eq_true, Option.isSome_iff_ne_none, beq_iff_eq]

section
variable {s : State} {b : Bay} {c : Cause} {m : Lane}

theorem act_hold_present (h : (s.lane b).holds.has c = true) : act (.hold b c) s = (s, []) := if_pos h

/-- A further cause, or a cause of an IDLE lane, is added alone (R87). -/
theorem act_hold_adds (h : (s.lane b).holds.has c = false) (hi : (s.lane b).st = .idle ∨ (s.lane b).holds ≠ Holds.none) :
    act (.hold b c) s = (s.setLane b { s.lane b with holds := (s.lane b).holds.put c true }, []) := by
  refine (if_neg (by simp [h])).trans (if_neg fun hc => ?_)
  rw [isEmpty_iff] at hc
  exact hi.elim hc.2 fun hn => hn hc.1

/-- The first cause takes a working lane into HELD (R87). -/
theorem act_hold_stops (hi : (s.lane b).st ≠ .idle) (hn : (s.lane b).holds = Holds.none) : act (.hold b c) s = (s.setLane b
    { s.lane b with holds := (s.lane b).holds.put c true, ret := some (s.lane b).st, st := .held }).release b := by
  have hhas : ¬ (s.lane b).holds.has c = true := by simp [hn, has_none]
  exact (if_neg hhas).trans (if_pos ⟨(isEmpty_iff _).mpr hn, hi⟩)

theorem act_unhold_absent (h : (s.lane b).holds.has c = false) : act (.unhold b c) s = (s, []) := if_neg (by simp [h])

theorem act_unhold_leaves (h : (s.lane b).holds.has c = true) (hn : (s.lane b).holds.put c false ≠ Holds.none) :
    act (.unhold b c) s = (s.setLane b { s.lane b with holds := (s.lane b).holds.put c false }, []) :=
  (if_pos h).trans (if_neg (mt (isEmpty_iff _).mp hn))

/-- The last cause removed: an IDLE lane judges its queue (R67). -/
theorem act_unhold_idle (h : (s.lane b).holds.has c = true) (hn : (s.lane b).holds.put c false = Holds.none)
    (hm : m = { s.lane b with holds := Holds.none }) (hi : m.st = .idle) : act (.unhold b c) s = (s.setLane b m, [.idle b]) := by
  have hst : (s.lane b).st = .idle := by rw [hm] at hi; exact hi
  simp only [act, actUnhold, if_pos h, hn, (isEmpty_iff _).mpr rfl, if_true, hst]
  rw [hm, ← hst]

/-- The last cause removed: a HELD lane resumes (R89). -/
theorem act_unhold_held (h : (s.lane b).holds.has c = true) (hn : (s.lane b).holds.put c false = Holds.none)
    (hm : m = { s.lane b with holds := Holds.none }) (hi : m.st = .held) : act (.unhold b c) s = s.resume b m := by
  have hst : (s.lane b).st = .held := by rw [hm] at hi; exact hi
  simp only [act, actUnhold, if_pos h, hn, (isEmpty_iff _).mpr rfl, if_true, hst]
  rw [hm, ← hst]

/-! ### Resuming by the return state (R89) -/

theorem resume_claims {u : WashUtil} (hr : m.ret = some .running ∨ m.ret = some .waitResource ∨ m.ret = some .suspended)
    (hw : m.service = some .wash) (hu : (s.entry m.index).utility? = some u) :
    s.resume b m = (s.setLane b { m with st := .waitResource, ret := none }, [.claim b u.util]) := by
  have hno : m.service ≠ some .fill := by simp [hw]
  rcases hr with hr | hr | hr <;> simp only [State.resume, hr, if_neg hno, hu]

theorem resume_runs (hr : m.ret = some .running) (hw : m.service = some .wash) (hu : (s.entry m.index).utility? = none) :
    s.resume b m = s.resumeChecked b m .running m.timer := by
  have hno : m.service ≠ some .fill := by simp [hw]
  simp only [State.resume, hr, if_neg hno, hu]

theorem resume_seats (hr : m.ret = some .seating) (hs : m.seated ≠ m.current) :
    s.resume b m = (s.setLane b { m with st := .seating, ret := none, timer := 0 }, []) := by
  simp only [State.resume, hr, if_neg hs]

theorem resume_seated (hr : m.ret = some .seating) (hs : m.seated = m.current) :
    s.resume b m = (s.setLane b { m with st := .seating, ret := none, timer := 0 },
      [if m.service = some .fill then .fillWait b else .fetch b]) := by
  simp only [State.resume, hr, if_pos hs]

theorem resume_checked {st : LaneState} (hst : st = .draining ∨ st = .scanning) (hr : m.ret = some st) :
    s.resume b m = s.resumeChecked b m st 0 := by
  rcases hst with rfl | rfl <;> simp only [State.resume, hr]

theorem resume_starves (hr : m.ret = some .starved) (hs : m.starveRelease = false) :
    s.resume b m = (s.setLane b { m with st := .starved, ret := none, timer := 0 }, []) := by
  simp only [State.resume, hr, hs, if_neg Bool.false_ne_true]

theorem resume_released (hr : m.ret = some .starved) (hs : m.starveRelease = true) :
    s.resume b m = (s.goNext b { m with ret := none, starveRelease := false }, [.fetch b]) := by
  simp only [State.resume, hr, hs, if_true]

theorem resume_fills (hr : m.ret = some .filling ∨ m.ret = some .waitResource ∨ m.ret = some .suspended)
    (hw : m.service = some .fill) : s.resume b m = (s.setLane b { m with ret := none }, [.fillWait b]) := by
  rcases hr with hr | hr | hr <;> simp only [State.resume, hr, if_pos hw]

theorem resumeChecked_ok {st : LaneState} {timer : Nat} (h : s.lanceOk b = true) :
    s.resumeChecked b m st timer = (s.setLane b { m with st := st, ret := none, timer := timer }, []) := if_pos h

theorem resumeChecked_lost {st : LaneState} {timer : Nat} (h : ¬ s.lanceOk b = true) :
    s.resumeChecked b m st timer = (s.setLane b m, [.abort b .lanceLost]) := if_neg h

end

/-- Settles O44. -/
theorem holdCausesStopALaneAndLetItGo : Obligations.HoldCausesStopALaneAndLetItGo := by
  refine ⟨fun l tag bay b s hf hm hb => ⟨⟨_, rfl, exec_answer (r := .hold bay) rfl hf (.inr rfl) ?_⟩,
    ⟨_, rfl, exec_answer (r := .resume bay) rfl hf (.inr rfl) ?_⟩⟩, fun h v => ⟨rfl, rfl, rfl, rfl, rfl, rfl, rfl, rfl⟩,
    fun b c s => ⟨act_hold_present, act_hold_adds, act_hold_stops, act_unhold_absent, act_unhold_leaves, fun m h hn hm => ?_⟩⟩
  · simp only [answer, answerHold, if_neg hm, (bay?_eq_some_iff bay b).mpr hb]
  · simp only [answer, answerResume, if_neg hm, (bay?_eq_some_iff bay b).mpr hb]
  · have hlance : s.lanceOk b = true ↔ m.current ≠ none ∧ m.seated = m.current := by rw [lanceOk_iff, hm]
    have horders : m.orders = (s.lane b).orders := by rw [hm]
    refine ⟨act_unhold_idle h hn hm, fun hi => ?_⟩
    rw [act_unhold_held h hn hm hi]
    refine ⟨fun u hr hw hu => resume_claims hr hw hu, fun hr hw hu => ?_, resume_seats, resume_seated, fun st hst hr => ?_, resume_starves,
      fun n hr hs hnext => ?_, fun hr hs hnext => ?_, resume_fills⟩
    · rw [resume_runs hr hw hu]
      exact ⟨fun h1 h2 => resumeChecked_ok (hlance.mpr ⟨h1, h2⟩), fun hno => resumeChecked_lost (mt hlance.mp (by grind))⟩
    · rw [resume_checked hst hr]
      exact ⟨fun h1 h2 => resumeChecked_ok (hlance.mpr ⟨h1, h2⟩), fun hno => resumeChecked_lost (mt hlance.mp (by grind))⟩
    · rw [resume_released hr hs, goNext_some (by exact hnext), ← horders]
    · rw [resume_released hr hs, goNext_none (by exact hnext), ← horders]

end Sys2Proof.Machine
end

section
/-! PROOFS. Bay reports and signals (R66 to R80, R91, R101, R135 to R137). -/

namespace Sys2Proof.Machine

/-! ## What a report counts -/

theorem runOn_zero (n k : Nat) : runOn (n == 0) k = if n = 0 then min 255 (k + 1) else 0 := if_congr beq_iff_eq rfl rfl

theorem coldFor_none {r : Report} {minTemp : Option Nat} (h : ∀ t, minTemp = some t → t ≤ r.temp) : r.coldFor minTemp = false := by
  cases minTemp with
  | none => rfl
  | some t => exact decide_eq_false (Nat.not_lt.mpr (h t rfl))

theorem coldFor_some {r : Report} {minTemp : Option Nat} {t : Nat} (h : minTemp = some t) (ht : r.temp < t) :
    r.coldFor minTemp = true := by
  subst h
  exact decide_eq_true ht

section
variable {s : State} {b : Bay} {r : Report} {m : Lane}

theorem countReport_rests (hm : m = { s.lane b with temp := some r.temp })
    (h : m.st = .idle ∨ m.st = .waitResource ∨ m.st = .held ∨ m.st = .suspended) : s.countReport b r = s.setLane b m := by
  subst hm
  dsimp only at h
  rcases h with h | h | h | h <;> simp only [State.countReport, h]

theorem countReport_times (hm : m = { s.lane b with temp := some r.temp })
    (h : m.st = .seating ∨ m.st = .draining ∨ m.st = .starved ∨ m.st = .scanning) :
    s.countReport b r = s.setLane b { m with timer := min 255 (m.timer + 1) } := by
  subst hm
  dsimp only at h
  rcases h with h | h | h | h <;> simp only [State.countReport, h] <;> rfl

theorem countReport_fills {k : Nat} (hm : m = { s.lane b with temp := some r.temp }) (h : m.st = .filling) (hc : m.current = some k) :
    s.countReport b r = (s.modRecord b k fun x => { x with filled := min 65535 (x.filled + r.fill) }).setLane b
      { m with noFlow := if r.fill = 0 then min 255 (m.noFlow + 1) else 0 } := by
  subst hm
  dsimp only at h
  have hcur : (s.lane b).current = some k := hc
  simp only [State.countReport, h, modServed_eq hcur, runOn_zero]
  rfl

theorem countReport_runs (hm : m = { s.lane b with temp := some r.temp }) (h : m.st = .running) :
    s.countReport b r = s.countRunning b m r := by
  subst hm
  dsimp only at h
  simp only [State.countReport, h]

/-- A FLUSH's report of warm enough water: its litres counted (R75). -/
theorem countRunning_flush {k amount : Nat} {u : WashUtil} {minTemp stall : Option Nat} {drain endMark : Bool} {next : StepIx}
    (hc : (s.lane b).current = some k) (he : s.entry m.index = .flush u amount minTemp stall drain endMark next)
    (ht : r.coldFor minTemp = false) : s.countRunning b m r = (s.modRecord b k fun x => x.addLitres u r.flow).setLane b
      { m with noFlow := if r.flow = 0 then min 255 (m.noFlow + 1) else 0, cold := 0, delivered := min 65535 (m.delivered + r.flow),
               anyLitres := m.anyLitres || decide (0 < r.flow) } := by
  simp only [State.countRunning, he, ht, if_neg Bool.false_ne_true, modServed_eq hc, runOn_zero]
  rfl

theorem countRunning_coldFlush {amount : Nat} {u : WashUtil} {minTemp stall : Option Nat} {drain endMark : Bool} {next : StepIx}
    (he : s.entry m.index = .flush u amount minTemp stall drain endMark next) (ht : r.coldFor minTemp = true) :
    s.countRunning b m r = s.setLane b
      { m with noFlow := if r.flow = 0 then min 255 (m.noFlow + 1) else 0, cold := min 255 (m.cold + 1) } := by
  simp only [State.countRunning, he, ht, if_true, runOn_zero]
  rfl

/-- A BLOW's report of warm enough gas: its period counted (R76). -/
theorem countRunning_blow {k amount : Nat} {u : WashUtil} {minTemp : Option Nat} {endMark : Bool} {next : StepIx}
    (hc : (s.lane b).current = some k) (he : s.entry m.index = .blow u amount minTemp endMark next) (ht : r.coldFor minTemp = false) :
    s.countRunning b m r = (s.modRecord b k fun x => x.addPeriod u).setLane b
      { m with cold := 0, delivered := min 65535 (m.delivered + 1) } := by
  simp only [State.countRunning, he, ht, if_neg Bool.false_ne_true, modServed_eq hc]
  rfl

theorem countRunning_coldBlow {amount : Nat} {u : WashUtil} {minTemp : Option Nat} {endMark : Bool} {next : StepIx}
    (he : s.entry m.index = .blow u amount minTemp endMark next) (ht : r.coldFor minTemp = true) :
    s.countRunning b m r = s.setLane b { m with cold := min 255 (m.cold + 1) } := by
  simp only [State.countRunning, he, ht, if_true]
  rfl

theorem countRunning_soak {amount : Nat} {drain endMark : Bool} {next : StepIx} (he : s.entry m.index = .soak amount drain endMark next) :
    s.countRunning b m r = s.setLane b { m with delivered := min 65535 (m.delivered + 1) } := by
  simp only [State.countRunning, he]
  rfl

end

/-- Settles O45. -/
theorem reportsCountByTheLaneState : Obligations.ReportsCountByTheLaneState := by
  intro b r s m hm
  have hcur {k : Nat} (h : m.current = some k) : (s.lane b).current = some k := by rwa [hm] at h
  refine ⟨countReport_rests hm, countReport_times hm, fun k => countReport_fills hm,
    fun k u amount minTemp stall drain endMark next hst hc he => ⟨fun ht => ⟨fun hu => ?_, fun hu => ?_⟩, fun t h ht => ?_⟩,
    fun k u amount minTemp endMark next hst hc he => ⟨fun ht => ⟨fun hu => ?_, fun hu => ?_⟩, fun t h ht => ?_⟩,
    fun amount drain endMark next hst he => ?_⟩
  · subst hu
    exact (countReport_runs hm hst).trans (countRunning_flush (hcur hc) he (coldFor_none ht))
  · rcases hu with rfl | rfl
    · exact (countReport_runs hm hst).trans (countRunning_flush (hcur hc) he (coldFor_none ht))
    · exact (countReport_runs hm hst).trans (countRunning_flush (hcur hc) he (coldFor_none ht))
  · exact (countReport_runs hm hst).trans (countRunning_coldFlush he (coldFor_some h ht))
  · subst hu
    exact (countReport_runs hm hst).trans (countRunning_blow (hcur hc) he (coldFor_none ht))
  · subst hu
    exact (countReport_runs hm hst).trans (countRunning_blow (hcur hc) he (coldFor_none ht))
  · exact (countReport_runs hm hst).trans (countRunning_coldBlow he (coldFor_some h ht))
  · exact (countReport_runs hm hst).trans (countRunning_soak he)

/-! ## What a counted report brings about -/

section
variable {t : State} {b : Bay}

theorem reportEnd_seating (h : (t.lane b).st = .seating) :
    t.reportEnd b = if t.timing.seat ≤ (t.lane b).timer then .seatTimeout else .goesOn := by
  simp only [State.reportEnd, h]

theorem reportEnd_draining (h : (t.lane b).st = .draining) :
    t.reportEnd b = if t.timing.drain ≤ (t.lane b).timer then .drainStuck else .goesOn := by
  simp only [State.reportEnd, h]

theorem reportEnd_starved (h : (t.lane b).st = .starved) :
    t.reportEnd b = if t.timing.starve ≤ (t.lane b).timer then .underrun else .goesOn := by
  simp only [State.reportEnd, h]

theorem reportEnd_scanning {w : Window} {o : ScanOrder} {x stall : Nat} {e : Bool} {n : StepIx} (h : (t.lane b).st = .scanning)
    (he : t.entry (t.lane b).index = .inspect w o x stall e n) :
    t.reportEnd b = if stall ≤ (t.lane b).timer then .scanStall else .goesOn := by
  simp only [State.reportEnd, h, he, Descriptor.stall?, stalled, decide_eq_true_eq]

theorem stalled_iff (limit : Option Nat) (run : Nat) : stalled limit run = true ↔ ∃ x, limit = some x ∧ x ≤ run := by
  cases limit <;> simp [stalled]

/-- A running FLUSH: the amount first, then the stall limit, then the cold limit (R75). -/
theorem reportEnd_flush {u : WashUtil} {amount : Nat} {minTemp stall : Option Nat} {d e : Bool} {n : StepIx}
    (h : (t.lane b).st = .running) (he : t.entry (t.lane b).index = .flush u amount minTemp stall d e n) :
    t.reportEnd b = if amount ≤ (t.lane b).delivered then .stepEnd
      else if stalled stall (t.lane b).noFlow then .noFlow
      else if t.timing.cold ≤ (t.lane b).cold then .coldSupply
      else .goesOn := by
  simp only [State.reportEnd, h, he]

theorem reportEnd_blow {u : WashUtil} {amount : Nat} {minTemp : Option Nat} {e : Bool} {n : StepIx} (h : (t.lane b).st = .running)
    (he : t.entry (t.lane b).index = .blow u amount minTemp e n) :
    t.reportEnd b = if amount ≤ (t.lane b).delivered then .stepEnd
      else if t.timing.cold ≤ (t.lane b).cold then .coldSupply else .goesOn := by
  simp only [State.reportEnd, h, he]

theorem reportEnd_soak {amount : Nat} {d e : Bool} {n : StepIx} (h : (t.lane b).st = .running)
    (he : t.entry (t.lane b).index = .soak amount d e n) :
    t.reportEnd b = if amount ≤ (t.lane b).delivered then .stepEnd else .goesOn := by
  simp only [State.reportEnd, h, he]

/-- A fill: the target first, then the stall limit (R135). -/
theorem reportEnd_filling {k : Nat} {r : Comp} {o : FillOrder} (h : (t.lane b).st = .filling) (hc : (t.lane b).current = some k)
    (hr : t.record? b k = some r) (ho : r.order = some o) :
    t.reportEnd b = if o.target ≤ r.filled then .fillComplete
      else if t.timing.fillStall ≤ (t.lane b).noFlow then .fillStall
      else .goesOn := by
  simp only [State.reportEnd, h, served?_eq hc, hr, ho]

theorem reportEnd_rests (h : (t.lane b).st = .idle ∨ (t.lane b).st = .waitResource ∨ (t.lane b).st = .held ∨ (t.lane b).st = .suspended) :
    t.reportEnd b = .goesOn := by
  rcases h with h | h | h | h <;> simp only [State.reportEnd, h]

theorem endReport_seatTimeout {k : Nat} (hc : (t.lane b).current = some k) : t.endReport b .seatTimeout =
    ((((t.modRecord b k fun x => x.dropped (t.lane b).service).raiseBay b (.fault .seatTimeout k (t.lane b).index)).setLane b
      (t.lane b).toIdle).settle [.idle b]) := by
  simp only [State.endReport, State.dropSeating, modServed_eq hc, servedIndex_eq hc]

end

/-! ## Report rows (log 4) -/

theorem report?_inRange {temp : Byte} (h : temp.toNat ≤ 99) (flow fill : Byte) :
    report? flow fill temp = some { flow := flow.toNat, fill := fill.toNat, temp := temp.toNat } := if_pos h

theorem report?_hot {temp : Byte} (h : 99 < temp.toNat) (flow fill : Byte) : report? flow fill temp = none := if_neg (by omega)

/-- A row named for a judgement is the report that brings it about. -/
theorem exec_reportRow {e : ReportEnd} {b : Bay} {flow fill temp : Byte} {c : Instr} (h : reportRowOf e b flow fill temp = some c)
    (s : State) : exec c s = .next (s.live fun t => t.reportRow b flow fill temp e) := by
  cases e with
  | goesOn => exact absurd h (by simp [reportRowOf])
  | _ =>
    obtain rfl := Option.some.inj h
    rfl

section
variable {b : Bay} {flow fill temp : Byte} {s : State}

theorem exec_bayReport_taken (hs : s.pins.resetHeld = false) (ht : temp.toNat ≤ 99) : exec (.bayReport b flow fill temp) s =
    .next (s.takeReport b { flow := flow.toNat, fill := fill.toNat, temp := temp.toNat }).choose :=
  congrArg Host.Outcome.next (live_eq hs (by rw [report?_inRange ht]; rfl))

theorem exec_bayReport_hot (hs : s.pins.resetHeld = false) (ht : 99 < temp.toNat) : exec (.bayReport b flow fill temp) s = .next s.choose :=
  congrArg Host.Outcome.next (live_eq hs (by rw [report?_hot ht]; rfl))

theorem exec_reportRow_taken {e : ReportEnd} {c : Instr} (hs : s.pins.resetHeld = false) (ht : temp.toNat ≤ 99)
    (h : reportRowOf e b flow fill temp = some c) :
    exec c s = .next (s.takeReportFor b { flow := flow.toNat, fill := fill.toNat, temp := temp.toNat } e).choose :=
  (exec_reportRow h s).trans (congrArg Host.Outcome.next (live_eq hs (by rw [State.reportRow, report?_inRange ht])))

theorem exec_reportRow_hot {e : ReportEnd} {c : Instr} (hs : s.pins.resetHeld = false) (ht : 99 < temp.toNat)
    (h : reportRowOf e b flow fill temp = some c) : exec c s = .next s.choose :=
  (exec_reportRow h s).trans (congrArg Host.Outcome.next (live_eq hs (by rw [State.reportRow, report?_hot ht])))

end

/-- Settles O46. -/
theorem reportsAreJudgedByTheLimits : Obligations.ReportsAreJudgedByTheLimits := by
  refine ⟨fun b flow fill temp s t hs ht hcount => ⟨fun h => ?_, fun e c hrow => ⟨fun h => ⟨?_, ?_⟩, fun h => ?_⟩⟩,
    fun b flow fill temp s hs ht => ⟨exec_bayReport_hot hs ht, fun e c hrow => exec_reportRow_hot hs ht hrow⟩, fun b t m hm => ?_⟩
  · rw [exec_bayReport_taken hs ht, State.takeReport, ← hcount]
    rw [h]
    rfl
  · rw [exec_reportRow_taken hs ht hrow, State.takeReportFor, ← hcount, if_pos h, State.takeReport, ← hcount]
    rw [h]
  · rw [exec_bayReport_taken hs ht, State.takeReport, ← hcount]
    rw [h]
  · rw [exec_reportRow_taken hs ht hrow, State.takeReportFor, ← hcount, if_neg h]
  · subst hm
    refine ⟨fun h hl => (reportEnd_seating h).trans (if_pos hl), fun h hl => (reportEnd_draining h).trans (if_pos hl),
      fun h hl => (reportEnd_starved h).trans (if_pos hl), fun w o x stall e n h he hl => (reportEnd_scanning h he).trans (if_pos hl),
      fun w o x stall e n h he hl => (reportEnd_scanning h he).trans (if_neg (Nat.not_le.mpr hl)),
      fun u amount minTemp stall d e n h he => ?_, fun u amount minTemp e n h he => ?_, fun amount d e n h he => ?_,
      fun k r o h hc hr ho => ?_, fun h => ?_, fun k r hc hr => endReport_seatTimeout hc, rfl, rfl, rfl, rfl, rfl, rfl, rfl, rfl⟩
    · have heq := reportEnd_flush h he
      have hopen (hx : ∀ x, stall = some x → (t.lane b).noFlow < x) : ¬ stalled stall (t.lane b).noFlow = true := fun hc => by
        obtain ⟨x, hs, hle⟩ := (stalled_iff _ _).mp hc
        exact absurd (hx x hs) (Nat.not_lt.mpr hle)
      refine ⟨fun hl => heq.trans (if_pos hl), fun x hl hs hx => ?_, fun hl hx hcold => ?_, fun hl hx hcold => ?_⟩
      · rw [heq, if_neg (Nat.not_le.mpr hl), if_pos ((stalled_iff _ _).mpr ⟨x, hs, hx⟩)]
      · rw [heq, if_neg (Nat.not_le.mpr hl), if_neg (hopen hx), if_pos hcold]
      · rw [heq, if_neg (Nat.not_le.mpr hl), if_neg (hopen hx), if_neg (Nat.not_le.mpr hcold)]
    · have heq := reportEnd_blow h he
      refine ⟨fun hl => heq.trans (if_pos hl), fun hl hcold => ?_, fun hl hcold => ?_⟩
      · rw [heq, if_neg (Nat.not_le.mpr hl), if_pos hcold]
      · rw [heq, if_neg (Nat.not_le.mpr hl), if_neg (Nat.not_le.mpr hcold)]
    · exact ⟨fun hl => (reportEnd_soak h he).trans (if_pos hl), fun hl => (reportEnd_soak h he).trans (if_neg (Nat.not_le.mpr hl))⟩
    · have heq := reportEnd_filling h hc hr ho
      refine ⟨fun hl => heq.trans (if_pos hl), fun hl hstall => ?_, fun hl hstall => ?_⟩
      · rw [heq, if_neg (Nat.not_le.mpr hl), if_pos hstall]
      · rw [heq, if_neg (Nat.not_le.mpr hl), if_neg (Nat.not_le.mpr hstall)]
    · rcases h with h | h | h | h | ⟨h, hl⟩ | ⟨h, hl⟩ | ⟨h, hl⟩
      · exact reportEnd_rests (.inl h)
      · exact reportEnd_rests (.inr (.inl h))
      · exact reportEnd_rests (.inr (.inr (.inl h)))
      · exact reportEnd_rests (.inr (.inr (.inr h)))
      · exact (reportEnd_seating h).trans (if_neg (Nat.not_le.mpr hl))
      · exact (reportEnd_draining h).trans (if_neg (Nat.not_le.mpr hl))
      · exact (reportEnd_starved h).trans (if_neg (Nat.not_le.mpr hl))

/-! ## Signals -/

section
variable {s : State} {b : Bay}

theorem exec_seated_inRange {x : Byte} (hs : s.pins.resetHeld = false) (h1 : 1 ≤ x.toNat) (h8 : x.toNat ≤ 8) :
    exec (.seated b x) s = .next (s.takeSeated b x.toNat).choose :=
  congrArg Host.Outcome.next (live_eq hs (by
    rw [show seatedIndex? x = some x.toNat from (index?_eq_some_iff x _).mpr ⟨rfl, h1, h8⟩]
    rfl))

theorem exec_seated_outOfRange {x : Byte} (hs : s.pins.resetHeld = false) (h : x.toNat = 0 ∨ 8 < x.toNat) :
    exec (.seated b x) s = .next s.choose :=
  congrArg Host.Outcome.next (live_eq hs (by
    rw [show seatedIndex? x = none from (index?_eq_none_iff x).mpr h]
    rfl))

theorem exec_lifted_live (hs : s.pins.resetHeld = false) : exec (.lifted b) s = .next (s.takeLifted b).choose :=
  congrArg Host.Outcome.next (live_eq hs rfl)

theorem exec_drainClear_live (hs : s.pins.resetHeld = false) : exec (.drainClear b) s = .next (s.takeDrainClear b).choose :=
  congrArg Host.Outcome.next (live_eq hs rfl)

theorem exec_highLevel_live (hs : s.pins.resetHeld = false) : exec (.highLevel b) s = .next (s.takeHighLevel b).choose :=
  congrArg Host.Outcome.next (live_eq hs rfl)

/-- SEATED at the compartment a seating lane waits for ends its seating (R70). -/
theorem takeSeated_seating {k : Nat} (h : (s.lane b).st = .seating) (hc : (s.lane b).current = some k) : s.takeSeated b k =
    (s.setLane b { s.lane b with seated := some k }).settle [if (s.lane b).service = some .fill then .fillWait b else .fetch b] := by
  unfold State.takeSeated; dsimp only
  rw [h]
  exact if_pos hc

/-- SEATED elsewhere ends the work of a lane that works with the lance (R72). -/
theorem takeSeated_lost {k : Nat} (h : (s.lane b).st = .running ∨ (s.lane b).st = .draining ∨ (s.lane b).st = .scanning)
    (hc : (s.lane b).current ≠ some k) :
    s.takeSeated b k = (s.setLane b { s.lane b with seated := some k }).settle [.abort b .lanceLost] := by
  unfold State.takeSeated; dsimp only
  rcases h with h | h | h
  all_goals
    rw [h]
    exact if_neg hc

theorem takeSeated_fillLost {k : Nat} (h : (s.lane b).st = .filling) (hc : (s.lane b).current ≠ some k) :
    s.takeSeated b k = (s.setLane b { s.lane b with seated := some k }).settle [.endFill b .lanceLost] := by
  unfold State.takeSeated; dsimp only
  rw [h]
  exact if_neg hc

/-- SEATED otherwise sets the seat alone. -/
theorem takeSeated_notes {k : Nat} (h : (s.lane b).st = .idle ∨ (s.lane b).st = .waitResource ∨ (s.lane b).st = .starved ∨
    (s.lane b).st = .held ∨ (s.lane b).st = .suspended ∨ ((s.lane b).st = .seating ∧ (s.lane b).current ≠ some k) ∨
    ((s.lane b).st ≠ .seating ∧ (s.lane b).current = some k)) :
    s.takeSeated b k = s.setLane b { s.lane b with seated := some k } := by
  unfold State.takeSeated; dsimp only
  cases hst : (s.lane b).st with
  | idle => rfl
  | waitResource => rfl
  | starved => rfl
  | held => rfl
  | suspended => rfl
  | seating => exact if_neg (by simpa [hst] using h)
  | running => exact if_pos (by simpa [hst] using h)
  | draining => exact if_pos (by simpa [hst] using h)
  | scanning => exact if_pos (by simpa [hst] using h)
  | filling => exact if_pos (by simpa [hst] using h)

theorem takeLifted_lost (h : (s.lane b).st = .running ∨ (s.lane b).st = .draining ∨ (s.lane b).st = .scanning) :
    s.takeLifted b = (s.setLane b { s.lane b with seated := none }).settle [.abort b .lanceLost] := by
  unfold State.takeLifted; dsimp only
  rcases h with h | h | h
  all_goals
    rw [h]

theorem takeLifted_fillLost (h : (s.lane b).st = .filling) :
    s.takeLifted b = (s.setLane b { s.lane b with seated := none }).settle [.endFill b .lanceLost] := by
  unfold State.takeLifted; dsimp only
  rw [h]

theorem takeLifted_notes (h : (s.lane b).st = .idle ∨ (s.lane b).st = .seating ∨ (s.lane b).st = .waitResource ∨
    (s.lane b).st = .starved ∨ (s.lane b).st = .held ∨ (s.lane b).st = .suspended) :
    s.takeLifted b = s.setLane b { s.lane b with seated := none } := by
  unfold State.takeLifted; dsimp only
  rcases h with h | h | h | h | h | h
  all_goals
    rw [h]

theorem takeHighLevel_floods (h : (s.lane b).st = .running) (hk : (s.stepOf b).kind = .flush) :
    s.takeHighLevel b = s.settle [.abort b .flooded] := by
  unfold State.takeHighLevel
  rw [h]
  exact if_pos hk

theorem takeHighLevel_fills (h : (s.lane b).st = .filling) : s.takeHighLevel b = s.settle [.endFill b .highLevel] := by
  unfold State.takeHighLevel
  rw [h]

theorem takeHighLevel_ignored (h : (s.lane b).st ≠ .filling) (hk : (s.lane b).st = .running → (s.stepOf b).kind ≠ .flush) :
    s.takeHighLevel b = s := by
  unfold State.takeHighLevel
  cases hst : (s.lane b).st with
  | running => exact if_neg (hk hst)
  | filling => exact absurd hst h
  | _ => rfl

end

/-- Settles O47. -/
theorem plantSignalsActByTheLaneState : Obligations.PlantSignalsActByTheLaneState := by
  intro b s m hs hm
  subst hm
  refine ⟨fun x t h1 h8 ht => ?_, fun x h => exec_seated_outOfRange hs h, fun t ht => ?_, fun h => ?_, fun h => ?_,
    fun u a t l d e n h he => ?_, fun h => ?_, fun h hk => ?_⟩
  · subst ht
    rw [exec_seated_inRange hs h1 h8]
    refine ⟨fun h hc hw => ?_, fun h hc hw => ?_, fun h hc => by rw [takeSeated_lost h hc], fun h hc => by rw [takeSeated_fillLost h hc],
      fun h => by rw [takeSeated_notes h]⟩
    · rw [takeSeated_seating h hc, if_neg (by simp [hw])]
    · rw [takeSeated_seating h hc, if_pos hw]
  · subst ht
    rw [exec_lifted_live hs]
    exact ⟨fun h => by rw [takeLifted_lost h], fun h => by rw [takeLifted_fillLost h], fun h => by rw [takeLifted_notes h]⟩
  · rw [exec_drainClear_live hs, State.takeDrainClear, if_pos h]
  · rw [exec_drainClear_live hs, State.takeDrainClear, if_neg h]
  · rw [exec_highLevel_live hs, takeHighLevel_floods h (by rw [State.stepOf, he]; rfl)]
  · rw [exec_highLevel_live hs, takeHighLevel_fills h]
  · rw [exec_highLevel_live hs, takeHighLevel_ignored h hk]

end Sys2Proof.Machine
end

section
/-! PROOFS. Readings and verdicts (R100, R104 to R107). -/

namespace Sys2Proof.Machine

/-! ## The figures of a window -/

theorem grade?_some {x : Byte} {g : Grade} (h : x.toNat = g.val) : grade? x = some g :=
  (dif_pos (h ▸ g.isLt : x.toNat < 8)).trans (congrArg some (Fin.ext h))

theorem grade?_none {x : Byte} (h : 7 < x.toNat) : grade? x = none := dif_neg (by omega)

theorem windowGrades_eq (m : ResidueMap) (zs : List Zone) :
    windowGrades m zs = (zs.filterMap fun z => m[zoneIx z]).map (·.val) := List.map_filterMap.symm

theorem maxGrade_map (gs : List Grade) : maxGrade (gs.map (·.val)) = gs.foldr (fun g n => max g.val n) 0 := by
  induction gs with
  | nil => rfl
  | cons g gs ih => exact congrArg (max g.val) ih

theorem length_filter_over (gs : List Grade) (n : Nat) :
    ((gs.map (·.val)).filter fun g => n < g).length = gs.countP fun g => decide (n < g.val) := by
  rw [← List.countP_eq_length_filter, List.countP_map]
  rfl

theorem verdictFigures_map (gs : List Grade) (n : Nat) : verdictFigures (gs.map (·.val)) n =
    (gs.foldr (fun g n => max g.val n) 0, gs.countP fun g => decide (n < g.val),
      gs.foldr (fun g n => max g.val n) 0 * 8 + min (gs.countP fun g => decide (n < g.val)) 7) := by
  unfold verdictFigures
  dsimp only
  rw [maxGrade_map, length_filter_over]

/-! ## The reading -/

section
variable {s : State} {b : Bay}

theorem exec_probe_read {x : Byte} {g : Grade} (hs : s.pins.resetHeld = false) (hg : x.toNat = g.val) :
    exec (.probe b x) s = .next (s.takeProbe b g).choose :=
  congrArg Host.Outcome.next (live_eq hs (by rw [grade?_some hg]; rfl))

theorem exec_probe_ignored {x : Byte} (hs : s.pins.resetHeld = false) (h : 7 < x.toNat) :
    exec (.probe b x) s = .next s.choose :=
  congrArg Host.Outcome.next (live_eq hs (by rw [grade?_none h]; rfl))

/-- The yard once a reading is written and the stage timer set back, the pointer not yet moved. -/
def State.withReading (s : State) (b : Bay) (z : Zone) (g : Grade) : State :=
  (s.setResidue b ((s.residue b).set (zoneIx z) (some g))).setLane b { s.lane b with timer := 0 }

theorem takeProbe_ignored (g : Grade) (h : (s.lane b).st ≠ .scanning) : s.takeProbe b g = s := by
  unfold State.takeProbe
  dsimp only
  split
  next hst _ => exact absurd hst h
  next => rfl

theorem takeProbe_goesOn {y : Scan} {z : Zone} {g : Grade} (h : (s.lane b).st = .scanning) (hy : s.scan b = some y)
    (hz : (scanZones y.window y.order)[y.written + 1]? = some z) :
    s.takeProbe b g = (s.withReading b y.pointer g).setScan b (some { y with pointer := z, written := y.written + 1 }) := by
  unfold State.takeProbe
  dsimp only
  split
  next x _ hx =>
    obtain rfl : x = y := Option.some.inj (hx.symm.trans hy)
    rw [hz]
    rfl
  next hno => exact absurd hy (hno y h)

theorem takeProbe_last {y : Scan} {g : Grade} (h : (s.lane b).st = .scanning) (hy : s.scan b = some y)
    (hz : (scanZones y.window y.order)[y.written + 1]? = none) :
    s.takeProbe b g = (s.withReading b y.pointer g).giveVerdict b { y with written := y.written + 1 } := by
  unfold State.takeProbe
  dsimp only
  split
  next x _ hx =>
    obtain rfl : x = y := Option.some.inj (hx.symm.trans hy)
    rw [hz]
    rfl
  next hno => exact absurd hy (hno y h)

/-! ## The verdict -/

/-- The yard once a verdict is recorded and reported, the scan record and the pin gone, its outcome not yet acted on (R104). -/
def State.withVerdict (s : State) (b : Bay) (k m c i : Nat) (j : Judgement) : State :=
  (((s.modRecord b k fun r => { r with verdict := some { maxGrade := m, overCount := c, outcome := some j, index := i } }).raiseBay b
    (.verdict k (s.lane b).index m c i j)).setScan b none).setPin b none

theorem giveVerdict_eq {x : Scan} {k : Nat} (hk : (s.lane b).current = some k) {gs : List Grade} {m c i : Nat}
    (hgs : gs = (scanZones x.window x.order).filterMap fun z => (s.residue b)[zoneIx z])
    (hm : m = gs.foldr (fun g n => max g.val n) 0) (hc : c = gs.countP fun g => decide (x.threshold < g.val))
    (hi : i = m * 8 + min c 7) :
    s.giveVerdict b x = (s.withVerdict b k m c i (s.verdictAt i)).actOnVerdict b (s.verdictAt i) := by
  have hf : verdictFigures (windowGrades (s.residue b) (scanZones x.window x.order)) x.threshold = (m, c, i) := by
    rw [windowGrades_eq, ← hgs, verdictFigures_map, ← hm, ← hc, ← hi]
  unfold State.giveVerdict
  dsimp only
  rw [hf, modServed_eq hk, servedIndex_eq hk]
  rfl

theorem lane_withVerdict (b' : Bay) (k m c i : Nat) (j : Judgement) : (s.withVerdict b k m c i j).lane b' = s.lane b' := rfl

theorem actOnVerdict_pass (cap : Nat) : s.actOnVerdict b (.pass cap) =
    (s.setLane b { s.lane b with cap := min (s.lane b).cap cap, inspected := true }).settle [.proceed b] := rfl

theorem actOnVerdict_rewash {k : Nat} (hk : (s.lane b).current = some k) : s.actOnVerdict b .rewash =
    (s.modRecord b k fun r => { r with st := .dirty, dirty := some .verdict, achieved := 0 }).settle [.toIdle b] := by
  unfold State.actOnVerdict
  dsimp only
  rw [modServed_eq hk]

theorem actOnVerdict_refer {k : Nat} (hk : (s.lane b).current = some k) : s.actOnVerdict b .refer =
    ((s.modRecord b k fun r => { r with st := .referred, achieved := 0 }).raiseBay b (.referral k)).settle [.toIdle b] := by
  unfold State.actOnVerdict
  dsimp only
  rw [modServed_eq hk, servedIndex_eq hk]

theorem lane_withReading (z : Zone) (g : Grade) :
    (s.withReading b z g).lane b = { s.lane b with timer := 0, orders := ((s.withReading b z g).lane b).orders } := by
  rw [State.withReading, lane_setLane]

end

/-- Settles O48. -/
theorem readingsAreWrittenAndTheLastGivesTheVerdict : Obligations.ReadingsAreWrittenAndTheLastGivesTheVerdict := by
  refine ⟨fun b x s hs hx => exec_probe_ignored hs hx, fun b x g s hs hg => ⟨fun h => ?_, fun y t h hy ht => ?_⟩⟩
  · rw [exec_probe_read hs hg, takeProbe_ignored g h]
  · obtain rfl : t = s.withReading b y.pointer g := ht
    rw [exec_probe_read hs hg]
    refine ⟨fun z hz => by rw [takeProbe_goesOn h hy hz], fun k gs m c i u hz hk hgs hm hc hi hu => ?_⟩
    have hl := lane_withReading (s := s) (b := b) y.pointer g
    have hk' : ((s.withReading b y.pointer g).lane b).current = some k := by rw [hl]; exact hk
    have hv : (s.withReading b y.pointer g).verdictAt i = s.verdictAt i := rfl
    have hu' : u = (s.withReading b y.pointer g).withVerdict b k m c i (s.verdictAt i) := by
      rw [hu, State.withVerdict, hl]
    have huk : (u.lane b).current = some k := by rw [hu', lane_withVerdict]; exact hk'
    have hucap : (u.lane b).cap = (s.lane b).cap := by rw [hu', lane_withVerdict, hl]
    rw [takeProbe_last h hy hz, giveVerdict_eq (x := { y with written := y.written + 1 }) hk' hgs hm hc hi, hv, ← hu']
    refine ⟨fun cap hj => ?_, fun hj => ?_, fun hj => ?_⟩
    · rw [hj, actOnVerdict_pass, hucap]
    · rw [hj, actOnVerdict_rewash huk]
    · rw [hj, actOnVerdict_refer huk]

end Sys2Proof.Machine
end

section
/-! PROOFS. Queue entries taken (R20, R32, R33, R67 to R70). -/

namespace Sys2Proof.Machine

section
variable {s : State} {b : Bay} {k : Nat} {rest : List QEntry}

theorem settle_act {t : Task} {t' : State} {ts : List Task} (h : act t s = (t', ts)) : s.settle [t] = t'.settle ts := by
  rw [settle_cons, h, List.append_nil]

theorem exec_takeWashEntry (hs : s.pins.resetHeld = false) (h : s.headKind b = some .wash) :
    exec (.takeWashEntry b) s = .next (s.settle [.idle b]).choose :=
  congrArg Host.Outcome.next (live_eq hs (if_pos h))

theorem exec_takeWashEntry_other (hs : s.pins.resetHeld = false) (h : s.headKind b ≠ some .wash) :
    exec (.takeWashEntry b) s = .next s.choose :=
  congrArg Host.Outcome.next (live_eq hs (if_neg h))

theorem exec_takeFillEntry (hs : s.pins.resetHeld = false) (h : s.headKind b = some .fill) :
    exec (.takeFillEntry b) s = .next (s.settle [.idle b]).choose :=
  congrArg Host.Outcome.next (live_eq hs (if_pos h))

theorem exec_takeFillEntry_other (hs : s.pins.resetHeld = false) (h : s.headKind b ≠ some .fill) :
    exec (.takeFillEntry b) s = .next s.choose :=
  congrArg Host.Outcome.next (live_eq hs (if_neg h))

theorem headKind_cons {k : Nat} {c : Service} (hq : (s.lane b).queue = { index := k, kind := c } :: rest) :
    s.headKind b = some c := by
  rw [State.headKind, hq]
  rfl

/-! ## An IDLE lane's judgement -/

theorem act_idle_waits (h : (s.lane b).st ≠ .idle ∨ s.mode ≠ .run ∨ (s.lane b).holds ≠ Holds.none) : act (.idle b) s = (s, []) :=
  if_neg fun ⟨hst, hm, hh⟩ => h.elim (· hst) fun h => h.elim (· hm) (· ((isEmpty_iff _).mp hh))

theorem act_idle_auditHold (h : s.headKind b = some .wash) (hc : s.certs.hold = true) : act (.idle b) s = (s, []) := by
  show actIdle b s = (s, [])
  unfold actIdle
  dsimp only
  split
  · cases hq : (s.lane b).queue with
    | nil => rfl
    | cons e rest =>
      have he : e.kind = .wash := by
        rw [State.headKind, hq] at h
        exact Option.some.inj h
      simp only [he]
  · rfl

theorem act_idle_takesWash (hst : (s.lane b).st = .idle) (hm : s.mode = .run) (hh : (s.lane b).holds = Holds.none)
    (hc : s.certs.hold = false) (hq : (s.lane b).queue = { index := k, kind := .wash } :: rest) :
    act (.idle b) s = s.takeWash b k rest := by
  refine (if_pos ⟨hst, hm, (isEmpty_iff _).mpr hh⟩).trans ?_
  rw [hq]
  exact if_neg (by simp [hc])

theorem act_idle_takesFill (hst : (s.lane b).st = .idle) (hm : s.mode = .run) (hh : (s.lane b).holds = Holds.none)
    (hq : (s.lane b).queue = { index := k, kind := .fill } :: rest) : act (.idle b) s = s.takeFill b k rest := by
  refine (if_pos ⟨hst, hm, (isEmpty_iff _).mpr hh⟩).trans ?_
  rw [hq]

/-! ## A WASH entry taken -/

/-- The lane once it has taken a WASH entry, its seat not yet judged (R68). -/
def Lane.washing (m : Lane) (k : Nat) (rest : List QEntry) (head : StepIx) : Lane :=
  { m with queue := rest, current := some k, service := some .wash, index := head, fetched := 0, delivered := 0, noFlow := 0, cold := 0,
           cap := 7, inspected := false, anyLitres := false }

/-- The yard once a WASH entry's record and residue map are made ready for its program (R10, R68). -/
def State.washBegun (s : State) (b : Bay) (k : Nat) : State :=
  (s.modRecord b k fun x => { x with st := .washing, verdict := none, water := 0, chemical := 0, steam := 0, dryer := 0 }).setResidue b
    (Vector.replicate 192 none)

theorem takeWash_seated {r : Comp} {p : Program} (hr : s.record? b k = some r) (hp : r.program = some p)
    (hs : (s.lane b).seated = some k) : s.takeWash b k rest =
      ((s.washBegun b k).setLane b ((s.lane b).washing k rest p.head), [.fetch b]) := by
  simp only [State.takeWash, hr, hp]
  exact if_pos hs

theorem takeWash_unseated {r : Comp} {p : Program} (hr : s.record? b k = some r) (hp : r.program = some p)
    (hs : (s.lane b).seated ≠ some k) : s.takeWash b k rest =
      ((s.washBegun b k).setLane b { (s.lane b).washing k rest p.head with st := .seating, timer := 0 }, []) := by
  simp only [State.takeWash, hr, hp]
  exact if_neg hs

/-! ## A FILL entry taken -/

/-- The fill-start check's cause: no line, then a forbidden cargo, then a class too low (R32). -/
theorem fillStartCause_eq_some_iff (s : State) (r : Comp) (o : FillOrder) (c : FillCause) : s.fillStartCause r o = some c ↔
    (c = .noLine ∧ s.lineCarries o.cargo = false) ∨ (s.lineCarries o.cargo = true ∧
      ((c = .forbidden ∧ s.carryEntry r.prior o.cargo = .forbidden) ∨
        (c = .classShort ∧ ∃ n, s.carryEntry r.prior o.cargo = .required n ∧ r.achieved < n))) := by
  cases hl : s.lineCarries o.cargo with
  | false => simp [State.fillStartCause, hl, eq_comm]
  | true =>
    cases hc : s.carryEntry r.prior o.cargo with
    | forbidden => simp [State.fillStartCause, hl, hc, eq_comm]
    | required n => simp [State.fillStartCause, hl, hc, eq_comm, and_comm]

theorem fillStartCause_eq_none {r : Comp} {o : FillOrder} {n : Nat} (hl : s.lineCarries o.cargo = true)
    (hc : s.carryEntry r.prior o.cargo = .required n) (h : n ≤ r.achieved) : s.fillStartCause r o = none := by
  simp [State.fillStartCause, hl, hc, h]

variable {r : Comp} {o : FillOrder}

theorem takeFill_refused {c : FillCause} (hr : s.record? b k = some r) (ho : r.order = some o) (hc : s.fillStartCause r o = some c) :
    s.takeFill b k rest = (((s.modRecord b k fun x => { x with order := none }).setLane b { s.lane b with queue := rest }).raiseBay b
      (.fillRefused k o.cargo c), [.idle b]) := by
  simp only [State.takeFill, hr, ho, hc]

theorem takeFill_seated (hr : s.record? b k = some r) (ho : r.order = some o) (hc : s.fillStartCause r o = none)
    (hs : (s.lane b).seated = some k) : s.takeFill b k rest =
      ((s.modRecord b k fun x => { x with st := .filling, filled := 0 }).setLane b
        { s.lane b with queue := rest, current := some k, service := some .fill, noFlow := 0 }, [.fillWait b]) := by
  simp only [State.takeFill, hr, ho, hc]
  exact if_pos hs

theorem takeFill_unseated (hr : s.record? b k = some r) (ho : r.order = some o) (hc : s.fillStartCause r o = none)
    (hs : (s.lane b).seated ≠ some k) : s.takeFill b k rest =
      ((s.modRecord b k fun x => { x with st := .filling, filled := 0 }).setLane b
        { s.lane b with queue := rest, current := some k, service := some .fill, noFlow := 0, st := .seating, timer := 0 }, []) := by
  simp only [State.takeFill, hr, ho, hc]
  exact if_neg hs

end

/-- Settles O50. -/
theorem lanesTakeTheirHeadEntry : Obligations.LanesTakeTheirHeadEntry := by
  intro b s m hs hm
  subst hm
  refine ⟨fun h => ?_, fun h => ?_, fun k rest r t hst hmode hh hr => ⟨fun p n hc hq hp ht hn => ?_, fun o hq ho => ?_⟩⟩
  · by_cases hk : s.headKind b = some .wash
    · rw [exec_takeWashEntry hs hk]
      by_cases hc : s.certs.hold = true
      · rw [settle_act (act_idle_auditHold hk hc), settle_nil]
      · have hw : (s.lane b).st ≠ .idle ∨ s.mode ≠ .run ∨ (s.lane b).holds ≠ Holds.none := by
          rcases h with h | h | h | h | h
          · exact .inl h
          · exact .inr (.inl h)
          · exact .inr (.inr h)
          · exact absurd h hc
          · exact absurd hk h
        rw [settle_act (act_idle_waits hw), settle_nil]
    · exact exec_takeWashEntry_other hs hk
  · by_cases hk : s.headKind b = some .fill
    · have hw : (s.lane b).st ≠ .idle ∨ s.mode ≠ .run ∨ (s.lane b).holds ≠ Holds.none := by
        rcases h with h | h | h | h
        · exact .inl h
        · exact .inr (.inl h)
        · exact .inr (.inr h)
        · exact absurd hk h
      rw [exec_takeFillEntry hs hk, settle_act (act_idle_waits hw), settle_nil]
    · exact exec_takeFillEntry_other hs hk
  · subst ht hn
    rw [exec_takeWashEntry hs (headKind_cons hq)]
    have ha := act_idle_takesWash hst hmode hh hc hq
    refine ⟨fun hse => ?_, fun hse => ?_⟩
    · rw [settle_act (ha.trans (takeWash_seated hr hp hse))]
      rfl
    · rw [settle_act (ha.trans (takeWash_unseated hr hp hse)), settle_nil]
      rfl
  · rw [exec_takeFillEntry hs (headKind_cons hq)]
    have ha := act_idle_takesFill hst hmode hh hq
    refine ⟨fun c hc => ?_, fun n hl hn hle ht => ?_⟩
    · have hcause : s.fillStartCause r o = some c := by
        rw [fillStartCause_eq_some_iff, lineCarries_iff, Bool.eq_false_iff, Ne, lineCarries_iff, not_or]
        exact hc
      rw [settle_act (ha.trans (takeFill_refused hr ho hcause))]
    · subst ht
      have hcause := fillStartCause_eq_none ((lineCarries_iff s o.cargo).mpr hl) hn hle
      refine ⟨fun hse => ?_, fun hse => ?_⟩
      · rw [settle_act (ha.trans (takeFill_seated hr ho hcause hse))]
      · rw [settle_act (ha.trans (takeFill_unseated hr ho hcause hse)), settle_nil]

end Sys2Proof.Machine
end

section
/-! PROOFS. Steps fetched, ended and followed (R13, R43, R53, R57, R59, R72 to R74, R78, R81). -/

namespace Sys2Proof.Machine

/-! ## Descriptors -/

theorem valid_flush_iff (u : WashUtil) (a : Nat) (t l : Option Nat) (d e : Bool) (x : StepIx) :
    (Descriptor.flush u a t l d e x).valid = true ↔ u = .hotWater ∨ u = .caustic ∨ u = .acid := by
  simp only [Descriptor.valid, Bool.or_eq_true, beq_iff_eq, or_assoc]

theorem valid_blow_iff (u : WashUtil) (a : Nat) (t : Option Nat) (e : Bool) (x : StepIx) :
    (Descriptor.blow u a t e x).valid = true ↔ u = .steam ∨ u = .dryer := by
  simp only [Descriptor.valid, Bool.or_eq_true, beq_iff_eq]

theorem valid_inspect_iff (w : Window) (o : ScanOrder) (h l : Nat) (e : Bool) (x : StepIx) :
    (Descriptor.inspect w o h l e x).valid = true ↔ w.firstRing ≤ w.lastRing ∧ w.firstSector ≤ w.lastSector := by
  simp only [Descriptor.valid, Bool.and_eq_true, decide_eq_true_eq, Fin.le_def]

/-! ## The fetch -/

section
variable {s : State} {b : Bay}

theorem act_fetch_limit (h : 64 ≤ (s.lane b).fetched) : act (.fetch b) s = (s, [.abort b .stepLimit]) := if_pos h

/-- The yard once the entry at a lane's index is pinned, a program's first fetch having removed the dirty reason (R73). -/
def State.fetchBegun (s : State) (b : Bay) : State :=
  let p := s.setPin b (some (s.lane b).index)
  if (s.lane b).fetched = 0 then p.modServed b fun r => { r with dirty := none } else p

/-- The lane that has counted a fetch and begins its step anew (R73). -/
def Lane.begun (m : Lane) : Lane := { m with fetched := m.fetched + 1, delivered := 0, noFlow := 0, cold := 0 }

theorem fetchBegun_eq {k : Nat} (hk : (s.lane b).current = some k) : s.fetchBegun b =
    if (s.lane b).fetched = 0 then (s.setPin b (some (s.lane b).index)).modRecord b k (fun r => { r with dirty := none })
      else s.setPin b (some (s.lane b).index) := by
  rw [State.fetchBegun, modServed_eq (k := k) (by exact hk)]

@[simp] theorem lanes_fetchBegun : (s.fetchBegun b).lanes = s.lanes := by
  unfold State.fetchBegun
  dsimp only
  split
  · exact lanes_modServed ..
  · rfl

theorem amendLane_fetchBegun (m : Lane) : (s.fetchBegun b).amendLane b m =
    { s.fetchBegun b with lanes := (s.fetchBegun b).lanes.set b { m with orders := (s.lane b).orders } } := by
  rw [State.amendLane, State.lane, lanes_fetchBegun]
  rfl

/-- An entry that is not valid aborts the step (R43). -/
theorem act_fetch_invalid (h : (s.lane b).fetched < 64) (hv : (s.entry (s.lane b).index).valid = false) : act (.fetch b) s =
    ({ s.fetchBegun b with
        lanes := (s.fetchBegun b).lanes.set b { s.lane b with fetched := (s.lane b).fetched + 1 } }, [.abort b .badStep]) := by
  refine ((if_neg (Nat.not_le.mpr h)).trans (if_pos hv)).trans ?_
  exact congrArg (·, _) (amendLane_fetchBegun _)

theorem act_fetch_flush {u : WashUtil} {a : Nat} {t l : Option Nat} {d e : Bool} {x : StepIx} (h : (s.lane b).fetched < 64)
    (he : s.entry (s.lane b).index = .flush u a t l d e x) (hu : u = .hotWater ∨ u = .caustic ∨ u = .acid) : act (.fetch b) s =
      ((s.fetchBegun b).setLane b { (s.lane b).begun with st := .waitResource }, [.claim b u.util]) := by
  refine ((if_neg (Nat.not_le.mpr h)).trans (if_neg ?_)).trans ?_
  · rw [he, (valid_flush_iff ..).mpr hu]
    exact Bool.noConfusion
  · rw [he]
    rfl

theorem act_fetch_blow {u : WashUtil} {a : Nat} {t : Option Nat} {e : Bool} {x : StepIx} (h : (s.lane b).fetched < 64)
    (he : s.entry (s.lane b).index = .blow u a t e x) (hu : u = .steam ∨ u = .dryer) : act (.fetch b) s =
      ((s.fetchBegun b).setLane b { (s.lane b).begun with st := .waitResource }, [.claim b u.util]) := by
  refine ((if_neg (Nat.not_le.mpr h)).trans (if_neg ?_)).trans ?_
  · rw [he, (valid_blow_iff ..).mpr hu]
    exact Bool.noConfusion
  · rw [he]
    rfl

theorem act_fetch_soak {a : Nat} {d e : Bool} {x : StepIx} (h : (s.lane b).fetched < 64)
    (he : s.entry (s.lane b).index = .soak a d e x) : act (.fetch b) s =
      if s.lanceOk b = true then ((s.fetchBegun b).setLane b { (s.lane b).begun with st := .running }, [])
      else ({ s.fetchBegun b with lanes := (s.fetchBegun b).lanes.set b (s.lane b).begun }, [.abort b .lanceLost]) := by
  refine ((if_neg (Nat.not_le.mpr h)).trans (if_neg ?_)).trans ?_
  · rw [he]
    exact Bool.noConfusion
  · rw [he]
    exact if_congr Iff.rfl rfl (congrArg (·, _) (amendLane_fetchBegun _))

theorem act_fetch_inspect {w : Window} {o : ScanOrder} {t l : Nat} {e : Bool} {x : StepIx} (h : (s.lane b).fetched < 64)
    (he : s.entry (s.lane b).index = .inspect w o t l e x) (hr : w.firstRing ≤ w.lastRing) (hx : w.firstSector ≤ w.lastSector) :
    act (.fetch b) s =
      if s.lanceOk b = true then
        (((s.fetchBegun b).setScan b
          (some { pointer := firstZone w o, written := 0, window := w, order := o, threshold := t })).setLane b
            { (s.lane b).begun with st := .scanning, timer := 0 }, [])
      else ({ s.fetchBegun b with lanes := (s.fetchBegun b).lanes.set b (s.lane b).begun }, [.abort b .lanceLost]) := by
  refine ((if_neg (Nat.not_le.mpr h)).trans (if_neg ?_)).trans ?_
  · rw [he, (valid_inspect_iff ..).mpr ⟨hr, hx⟩]
    exact Bool.noConfusion
  · rw [he]
    exact if_congr Iff.rfl rfl (congrArg (·, _) (amendLane_fetchBegun _))

theorem lanceOk_iff_seated {k : Nat} (hk : (s.lane b).current = some k) : s.lanceOk b = true ↔ (s.lane b).seated = some k := by
  rw [lanceOk_iff, hk]
  exact and_iff_right (Option.some_ne_none k)

/-! ## The step's end -/

theorem act_stepEnd : act (.stepEnd b) s = ((s.release b).1, (s.release b).2 ++ [.stepEnded b]) := rfl

/-- The yard once a finished step's pin is off and STEP_DONE raised (R78). -/
def State.stepDone (s : State) (b : Bay) (k : Nat) : State :=
  (s.setPin b none).raiseBay b (.stepDone k (s.lane b).index (s.entry (s.lane b).index).kind (s.lane b).delivered)

theorem act_stepEnded_proceeds {k : Nat} (hk : (s.lane b).current = some k)
    (hd : (s.entry (s.lane b).index).drainAfter = false) : act (.stepEnded b) s = (s.stepDone b k, [.proceed b]) := by
  refine (if_neg (by rw [State.stepOf, hd]; exact Bool.false_ne_true)).trans ?_
  rw [servedIndex_eq hk]
  rfl

theorem act_stepEnded_drains {k : Nat} (hk : (s.lane b).current = some k)
    (hd : (s.entry (s.lane b).index).drainAfter = true) : act (.stepEnded b) s =
      if s.lanceOk b = true then ((s.stepDone b k).setLane b { s.lane b with st := .draining, timer := 0 }, [])
      else (s.stepDone b k, [.abort b .lanceLost]) := by
  refine (if_pos hd).trans ?_
  rw [servedIndex_eq hk]
  rfl

/-! ## The proceed and the program's end -/

theorem boundedAt_iff {k : Nat} {r : Comp} {p : Program} (hk : (s.lane b).current = some k) (hr : s.record? b k = some r)
    (hp : r.program = some p) (i : StepIx) : s.boundedAt b i = true ↔ p.chain = .bounded i := by
  rw [State.boundedAt, served?_eq hk, hr]
  dsimp only
  rw [hp]
  exact beq_iff_eq

theorem act_proceed_ends (he : (s.entry (s.lane b).index).endMark = true) : act (.proceed b) s = (s, [.programEnd b]) := if_pos he

theorem act_proceed_starves (he : (s.entry (s.lane b).index).endMark = false) (hb : s.boundedAt b (s.lane b).index = true) :
    act (.proceed b) s = (s.setLane b { s.lane b with st := .starved, timer := 0 }, []) :=
  (if_neg (by simp [he])).trans (if_pos hb)

theorem act_proceed_goesOn (he : (s.entry (s.lane b).index).endMark = false) (hb : ¬ s.boundedAt b (s.lane b).index = true) :
    act (.proceed b) s = (s.goNext b (s.lane b), [.fetch b]) :=
  (if_neg (by simp [he])).trans (if_neg hb)

theorem act_programEnd_inspected {k : Nat} {r : Comp} {p : Program} (hi : (s.lane b).inspected = true)
    (hk : (s.lane b).current = some k) (hr : s.record? b k = some r) (hp : r.program = some p) : act (.programEnd b) s =
      ((s.modRecord b k fun x => { x with achieved := min p.cls (s.lane b).cap }).raiseBay b
        (.programEnd k (min p.cls (s.lane b).cap)), [.certify b k false, .toIdle b]) := by
  have hcls : r.programClass = p.cls := by rw [Comp.programClass, hp]
  refine (if_pos hi).trans ?_
  rw [served?_eq hk, hr]
  dsimp only
  rw [modServed_eq hk, hcls, (record?_names hr).2]

theorem act_programEnd_uninspected {k : Nat} (hi : (s.lane b).inspected = false) (hk : (s.lane b).current = some k) :
    act (.programEnd b) s =
      ((s.modRecord b k fun x => { x with
          st := .referred, achieved := 0,
          verdict := some { maxGrade := 0, overCount := 0, outcome := none, index := 0 } }).raiseBay b (.referral k), [.toIdle b]) := by
  refine (if_neg (by simp [hi])).trans ?_
  rw [modServed_eq hk, servedIndex_eq hk]
  rfl

end

/-- A fetch of an entry that cannot be carried out (R43): the four descriptors that are not valid. -/
theorem valid_eq_false {d : Descriptor} (h : d = .blank ∨
    (∃ u a t l e f x, d = .flush u a t l e f x ∧ (u = .steam ∨ u = .dryer)) ∨
    (∃ u a t e x, d = .blow u a t e x ∧ (u = .hotWater ∨ u = .caustic ∨ u = .acid)) ∨
    (∃ w o t l e x, d = .inspect w o t l e x ∧ (w.lastRing < w.firstRing ∨ w.lastSector < w.firstSector))) : d.valid = false := by
  rcases h with rfl | ⟨u, a, t, l, e, f, x, rfl, hu⟩ | ⟨u, a, t, e, x, rfl, hu⟩ | ⟨w, o, t, l, e, x, rfl, hw⟩
  · rfl
  · rcases hu with rfl | rfl <;> rfl
  · rcases hu with rfl | rfl | rfl <;> rfl
  · rw [Bool.eq_false_iff, Ne, valid_inspect_iff, not_and_or, not_le, not_le]
    exact hw

/-- Settles O51. -/
theorem stepsAreFetchedEndedAndFollowed : Obligations.StepsAreFetchedEndedAndFollowed := by
  refine ⟨fun d => by cases d <;> rfl, rfl, fun b s h => act_fetch_limit h, fun b k s p m n hm h hk hp hn => ?_,
    fun b s => act_stepEnd, fun b k s t m hm hk ht => ?_, fun b k r p s m hm hk hr hp => ?_⟩
  · subst hm hn
    obtain rfl : p = s.fetchBegun b := hp.trans (fetchBegun_eq hk).symm
    have hl := lanceOk_iff_seated hk
    refine ⟨fun hd => act_fetch_invalid h (valid_eq_false hd), fun u a t l d e x he hu => act_fetch_flush h he hu,
      fun u a t e x he hu => act_fetch_blow h he hu, fun a d e x he => ⟨fun hs => ?_, fun hs => ?_⟩,
      fun w o t l e x he hr hx => ⟨fun hs => ?_, fun hs => ?_⟩⟩
    · exact (act_fetch_soak h he).trans (if_pos (hl.mpr hs))
    · exact (act_fetch_soak h he).trans (if_neg (mt hl.mp hs))
    · exact (act_fetch_inspect h he hr hx).trans (if_pos (hl.mpr hs))
    · exact (act_fetch_inspect h he hr hx).trans (if_neg (mt hl.mp hs))
  · subst hm
    obtain rfl : t = s.stepDone b k := ht
    have hl := lanceOk_iff_seated hk
    refine ⟨act_stepEnded_proceeds hk, fun hd hs => ?_, fun hd hs => ?_⟩
    · exact (act_stepEnded_drains hk hd).trans (if_pos (hl.mpr hs))
    · exact (act_stepEnded_drains hk hd).trans (if_neg (mt hl.mp hs))
  · subst hm
    have hb := boundedAt_iff hk hr hp (s.lane b).index
    refine ⟨act_proceed_ends, fun he hc => act_proceed_starves he (hb.mpr hc), fun x he hc hx => ?_, fun he hc hx => ?_,
      fun hi => act_programEnd_inspected hi hk hr hp, fun hi => act_programEnd_uninspected hi hk, rfl⟩
    · rw [act_proceed_goesOn he (mt hb.mp hc), goNext_some hx]
    · rw [act_proceed_goesOn he (mt hb.mp hc), goNext_none hx]

end Sys2Proof.Machine
end

section
/-! PROOFS. The arbiter and its queues (R74, R90, R119 to R121). -/

namespace Sys2Proof.Machine

/-! ## Claim queues -/

/-- Of two claims the first may stand before the second in a queue: equal in priority and not later, or URGENT before ROUTINE (R119). -/
def Claim.Before (x y : Claim) : Prop := x.urgent = y.urgent ∧ x.arrival ≤ y.arrival ∨ x.urgent = true ∧ y.urgent = false

/-- The first sorts strictly ahead of the second. -/
def Claim.Ahead (x y : Claim) : Prop := x.urgent = y.urgent ∧ x.arrival < y.arrival ∨ x.urgent = true ∧ y.urgent = false

theorem ahead_iff (x y : Claim) : x.ahead y = true ↔ x.Ahead y := by
  simp only [Claim.ahead, Claim.Ahead, Bool.or_eq_true, Bool.and_eq_true, Bool.not_eq_true', beq_iff_eq, decide_eq_true_eq]
  exact or_comm

theorem not_ahead_iff (x y : Claim) : ¬ x.Ahead y ↔ y.Before x := by
  unfold Claim.Ahead Claim.Before
  cases x.urgent <;> cases y.urgent <;> simp

theorem Claim.Ahead.trans_before {x y z : Claim} (h : x.Ahead y) (h' : y.Before z) : x.Ahead z := by
  unfold Claim.Ahead at *
  unfold Claim.Before at h'
  grind

theorem Claim.Ahead.before {x y : Claim} (h : x.Ahead y) : x.Before y := h.imp_left fun h => ⟨h.1, h.2.le⟩

theorem insertClaim_eq (c : Claim) (q : List Claim) : insertClaim c q = q.orderedInsert (fun x y => x.ahead y = true) c := by
  induction q with
  | nil => rfl
  | cons x xs ih => rw [insertClaim, List.orderedInsert_cons, ih]

theorem insertClaim_perm (c : Claim) (q : List Claim) : (insertClaim c q).Perm (c :: q) := by
  rw [insertClaim_eq]
  exact List.perm_orderedInsert _ c q

/-- In a queue that keeps its order a claim is placed behind every claim it does not sort ahead of (R119). -/
theorem insertClaim_places (c : Claim) (q : List Claim) (hq : q.Pairwise Claim.Before) :
    ∃ before behind : List Claim, q = before ++ behind ∧ insertClaim c q = before ++ c :: behind ∧
      (∀ x ∈ before, x.Before c) ∧ ∀ y ∈ behind, c.Ahead y := by
  induction q with
  | nil => exact ⟨[], [], rfl, rfl, List.forall_mem_nil _, List.forall_mem_nil _⟩
  | cons x xs ih =>
    obtain ⟨hx, hxs⟩ := List.pairwise_cons.mp hq
    by_cases h : c.Ahead x
    · exact ⟨[], x :: xs, rfl, if_pos ((ahead_iff c x).mpr h), List.forall_mem_nil _,
        List.forall_mem_cons.mpr ⟨h, fun y hy => h.trans_before (hx y hy)⟩⟩
    · obtain ⟨before, behind, hsplit, hins, hbefore, hbehind⟩ := ih hxs
      refine ⟨x :: before, behind, congrArg (x :: ·) hsplit, ?_, List.forall_mem_cons.mpr ⟨(not_ahead_iff c x).mp h, hbefore⟩, hbehind⟩
      exact (if_neg (mt (ahead_iff c x).mp h)).trans (congrArg (x :: ·) hins)

theorem insertClaim_sorted (c : Claim) (q : List Claim) (hq : q.Pairwise Claim.Before) : (insertClaim c q).Pairwise Claim.Before := by
  obtain ⟨before, behind, rfl, hins, hbefore, hbehind⟩ := insertClaim_places c q hq
  obtain ⟨hl, hr, hlr⟩ := List.pairwise_append.mp hq
  rw [hins, List.pairwise_append, List.pairwise_cons]
  exact ⟨hl, ⟨fun y hy => (hbehind y hy).before, hr⟩,
    fun x hx => List.forall_mem_cons.mpr ⟨hbefore x hx, hlr x hx⟩⟩

theorem filter_lane_eq (q : List Claim) (b : Bay) : (q.filter fun c => !(c.lane == b)) = q.filter fun c => decide (c.lane ≠ b) :=
  List.filter_congr fun c _ => not_beq_eq_decide c.lane b

/-! ## The judgement -/

section
variable {s : State} {u : UtilId} {b : Bay}

theorem exec_utilityGrant (hs : s.pins.resetHeld = false) : exec (.utilityGrant u) s = .next (s.settle [.judge u]).choose :=
  congrArg Host.Outcome.next (live_eq hs rfl)

theorem act_judge_waits (h : (s.util u).claims = [] ∨ (s.util u).offline = true ∨ (s.util u).fault = true ∨
    (s.util u).capacity ≤ (s.util u).grants.length) : act (.judge u) s = (s, []) := by
  show actJudge u s = (s, [])
  unfold actJudge
  dsimp only
  cases hc : (s.util u).claims with
  | nil => rfl
  | cons c rest =>
    refine if_neg fun ⟨hin, hroom⟩ => ?_
    obtain ⟨ho, hf⟩ := (inService_iff _).mp hin
    rcases h with h | h | h | h
    · exact List.cons_ne_nil _ _ (hc.symm.trans h)
    · exact Bool.noConfusion (ho.symm.trans h)
    · exact Bool.noConfusion (hf.symm.trans h)
    · exact absurd hroom (Nat.not_lt.mpr h)

theorem act_judge_grants {c : Claim} {rest : List Claim} (hc : (s.util u).claims = c :: rest) (ho : (s.util u).offline = false)
    (hf : (s.util u).fault = false) (hroom : (s.util u).grants.length < (s.util u).capacity) : act (.judge u) s =
      (s.setUtil u { s.util u with claims := rest, grants := (s.util u).grants ++ [{ c with kept := false }],
                                   returning := (s.util u).returning.map fun n => min 6 (n + 1) }, [.granted c.lane, .judge u]) := by
  show actJudge u s = _
  unfold actJudge
  dsimp only
  rw [hc]
  exact if_pos ⟨(inService_iff _).mpr ⟨ho, hf⟩, hroom⟩

/-! ## The grant -/

theorem act_granted_wash (h : (s.lane b).service = some .wash) : act (.granted b) s =
    if s.lanceOk b = true then (s.setLane b { s.lane b with st := .running }, []) else (s, [.abort b .lanceLost]) := by
  show actGranted b s = _
  unfold actGranted
  dsimp only
  split
  next hf => exact Service.noConfusion (Option.some.inj (h.symm.trans hf))
  next => rfl

theorem act_granted_fill (h : (s.lane b).service = some .fill) : act (.granted b) s =
    if s.lanceOk b = true then (s.setLane b { s.lane b with st := .filling }, []) else (s, [.endFill b .lanceLost]) := by
  show actGranted b s = _
  unfold actGranted
  dsimp only
  split
  next => rfl
  next hf => exact absurd h hf

theorem not_lanceOk (h : (s.lane b).current = none ∨ (s.lane b).seated ≠ (s.lane b).current) : ¬ s.lanceOk b = true := by
  rw [lanceOk_iff]
  exact fun ⟨hc, hs⟩ => h.elim hc fun h => h hs

end

theorem drop_counter_empty {x : Util} {b : Bay} (hg : (x.drop b).grants = []) (hc : (x.drop b).claims = []) : (x.drop b).counter = 0 :=
  if_pos (Bool.and_eq_true_iff.mpr ⟨List.isEmpty_iff.mpr hg, List.isEmpty_iff.mpr hc⟩)

theorem drop_counter_kept {x : Util} {b : Bay} (h : (x.drop b).grants ≠ [] ∨ (x.drop b).claims ≠ []) :
    (x.drop b).counter = x.counter := by
  refine if_neg fun he => ?_
  obtain ⟨hg, hc⟩ := Bool.and_eq_true_iff.mp he
  exact h.elim (· (List.isEmpty_iff.mp hg)) (· (List.isEmpty_iff.mp hc))

theorem urgent_none {s : State} {b : Bay} (h : s.visit b = none) : s.urgent b = false := by rw [State.urgent, h]

theorem urgent_some {s : State} {b : Bay} {v : Visit} (h : s.visit b = some v) : s.urgent b = v.urgent := by rw [State.urgent, h]

/-- Settles O52. -/
theorem theArbiterGrantsTheHeadClaim : Obligations.TheArbiterGrantsTheHeadClaim := by
  refine ⟨fun u s hs => ⟨fun h => ?_, fun c rest hc ho hf hroom => ?_⟩, fun b s m hm => ?_, fun b u s => rfl,
    fun b s => ⟨urgent_none, fun v => urgent_some⟩, insertClaim_places, insertClaim_perm, insertClaim_sorted,
    fun x b => ⟨filter_lane_eq _ b, filter_lane_eq _ b, drop_counter_empty, drop_counter_kept⟩⟩
  · rw [exec_utilityGrant hs, settle_act (act_judge_waits h), settle_nil]
  · rw [exec_utilityGrant hs, settle_act (act_judge_grants hc ho hf hroom)]
  · subst hm
    refine ⟨fun hc hse hw => ?_, fun hc hse hw => ?_, fun h hw => ?_, fun h hw => ?_⟩
    · exact (act_granted_wash hw).trans (if_pos ((lanceOk_iff s b).mpr ⟨hc, hse⟩))
    · exact (act_granted_fill hw).trans (if_pos ((lanceOk_iff s b).mpr ⟨hc, hse⟩))
    · exact (act_granted_wash hw).trans (if_neg (not_lanceOk h))
    · exact (act_granted_fill hw).trans (if_neg (not_lanceOk h))

end Sys2Proof.Machine
end

section
/-! PROOFS. The yard bay by bay: a bay's books, its lane's post and what it holds at the utilities (R2, R63, R65, R116, R146). -/

namespace Sys2Proof.Machine

/-! ## A bay's books -/

/-- What is written down of a bay: its visit, its records with their indexes, its withheld compartments and its lane's queue. -/
structure Books where
  visit : Option Visit
  keys : List Nat
  record : Nat → Option Comp
  withheld : List Nat
  queue : List QEntry

def State.books (s : State) (b : Bay) : Books where
  visit := s.visit b
  keys := (s.records.filter fun r => decide (r.bay = b)).map Comp.index
  record := s.record? b
  withheld := (s.certs.withheld.filter fun w => decide (w.bay = b)).map Withheld.index
  queue := (s.lane b).queue

/-- Where a compartment stands in its bay's books beside its record. -/
inductive Place where
  | nowhere
  | washed
  | filled
  | washQueued
  | fillQueued
  | withheld

/-- The place a record's state calls for (R9, R15, R18, R63, R65, R146). -/
def Comp.place (r : Comp) : Place :=
  match r.st with
  | .washing => .washed
  | .filling => .filled
  | .queued => .washQueued
  | .awaitCert => .withheld
  | .certified => if r.order.isSome then .fillQueued else .nowhere
  | .admitted | .dirty | .referred | .filled => .nowhere

def Books.placeOf (B : Books) (k : Nat) : Place :=
  match B.record k with
  | some r => r.place
  | none => .nowhere

/-- The compartment stands at the place and at no other; `sv` is the compartment the lane serves and how. -/
structure Books.At (B : Books) (sv : Option (Nat × Service)) (k : Nat) (p : Place) : Prop where
  washed : sv = some (k, .wash) ↔ p = .washed
  filled : sv = some (k, .fill) ↔ p = .filled
  washQueued : { index := k, kind := .wash } ∈ B.queue ↔ p = .washQueued
  fillQueued : { index := k, kind := .fill } ∈ B.queue ↔ p = .fillQueued
  withheld : k ∈ B.withheld ↔ p = .withheld

/-- What a record's state says of its own fields (R9, R14 to R16, R20). -/
structure Comp.Formed (r : Comp) : Prop where
  achieved : r.achieved ≤ r.programClass
  unachieved : r.st ∈ [CompState.admitted, .queued, .washing, .dirty, .referred] → r.achieved = 0
  program : r.st ∈ [CompState.queued, .washing, .referred] → r.program.isSome = true
  certificate : r.st ∈ [CompState.certified, .filling, .filled] → r.cert.isSome = true
  order : r.st = .filling → r.order.isSome = true

/-- The books agree with one another and with what the lane serves. -/
structure Books.Kept (B : Books) (sv : Option (Nat × Service)) : Prop where
  visit : ∀ v, B.visit = some v → 1 ≤ v.count ∧ v.count ≤ 8
  keys : B.keys.Nodup
  records : ∀ k, (B.record k).isSome = true ↔ ∃ v, B.visit = some v ∧ 1 ≤ k ∧ k ≤ v.count
  formed : ∀ k r, B.record k = some r → r.Formed
  places : ∀ k, B.At sv k (B.placeOf k)
  queue : (B.queue.map QEntry.index).Nodup
  withheld : B.withheld.Nodup

/-! ## A lane's post -/

/-- The lane with its current entry, its pin and its scan record. -/
structure Post where
  st : LaneState
  current : Option Nat
  service : Option Service
  ret : Option LaneState
  holds : Holds
  index : StepIx
  step : Descriptor
  pin : Option StepIx
  scan : Option Scan

def State.post (s : State) (b : Bay) : Post where
  st := (s.lane b).st
  current := (s.lane b).current
  service := (s.lane b).service
  ret := (s.lane b).ret
  holds := (s.lane b).holds
  index := (s.lane b).index
  step := s.stepOf b
  pin := s.store.pins[b]
  scan := s.scan b

/-- The compartment the lane serves and how. -/
def Post.Serves (p : Post) (sv : Option (Nat × Service)) : Prop := p.current = sv.map Prod.fst ∧ p.service = sv.map Prod.snd

/-- No hold: neither a cause nor a return state. -/
def Post.Free (p : Post) : Prop := p.ret = none ∧ p.holds = Holds.none

/-- No step is executed: neither a pin nor a scan record. -/
def Post.Bare (p : Post) : Prop := p.pin = none ∧ p.scan = none

/-- A step other than an INSPECT is executed. -/
def Post.Steps (p : Post) : Prop := p.pin = some p.index ∧ p.scan = none

/-- The INSPECT step is executed, its scan record in step with it (R98). -/
def Post.Scans (p : Post) : Prop := p.pin = some p.index ∧ ∃ x stall e n, p.scan = some x ∧
  (scanZones x.window x.order)[x.written]? = some x.pointer ∧ p.step = .inspect x.window x.order x.threshold stall e n

/-- The utility the current step draws on. -/
def Post.draws (p : Post) : Option UtilId := p.step.utility?.map WashUtil.util

/-! ## What a lane holds -/

/-- What a lane holds at the utilities: nothing, one claim or one grant (R74, R116). -/
inductive Held where
  | nothing
  | claim (u : UtilId)
  | grant (u : UtilId)

/-- The numbers of grants and of claims at each utility. -/
def Held.counts : Held → UtilId → Nat × Nat
  | .nothing, _ => (0, 0)
  | .claim u, v => (0, if v = u then 1 else 0)
  | .grant u, v => (if v = u then 1 else 0, 0)

def State.holdings (s : State) (b : Bay) (u : UtilId) : Nat × Nat :=
  ((s.util u).grants.countP fun c => decide (c.lane = b), (s.util u).claims.countP fun c => decide (c.lane = b))

/-- The grant the current step runs on. -/
def Post.need (p : Post) : Held :=
  match p.draws with
  | some u => .grant u
  | none => .nothing

/-- The claim for the service is the one the step calls for; a fill's may stand at either line. -/
def Post.Waits (p : Post) (u : UtilId) : Service → Prop
  | .wash => p.Steps ∧ p.draws = some u
  | .fill => p.Bare

/-- A HELD lane's return state goes with its service, its pin and its scan record. -/
def Post.Returns (p : Post) : Service → LaneState → Prop
  | .wash, .seating | .wash, .draining | .wash, .starved => p.Bare
  | .wash, .waitResource | .wash, .running | .wash, .suspended => p.Steps
  | .wash, .scanning => p.Scans
  | .fill, .seating | .fill, .waitResource | .fill, .filling | .fill, .suspended => p.Bare
  | _, _ => False

/-- The lane's state goes with what it serves and holds, with its pin and with its scan record. -/
def Post.Works (p : Post) (sv : Option (Nat × Service)) (h : Held) : Prop :=
  match p.st with
  | .idle => sv = none ∧ p.ret = none ∧ p.Bare ∧ h = .nothing
  | .seating => p.Free ∧ p.Bare ∧ h = .nothing ∧ ∃ k w, sv = some (k, w)
  | .waitResource | .suspended => p.Free ∧ ∃ k w u, sv = some (k, w) ∧ h = .claim u ∧ p.Waits u w
  | .running => p.Free ∧ p.Steps ∧ h = p.need ∧ ∃ k, sv = some (k, .wash)
  | .draining | .starved => p.Free ∧ p.Bare ∧ h = .nothing ∧ ∃ k, sv = some (k, .wash)
  | .scanning => p.Free ∧ p.Scans ∧ h = .nothing ∧ ∃ k, sv = some (k, .wash)
  | .filling => p.Free ∧ p.Bare ∧ ∃ k u, sv = some (k, .fill) ∧ h = .grant u
  | .held => p.holds ≠ Holds.none ∧ h = .nothing ∧ ∃ k w r, sv = some (k, w) ∧ p.ret = some r ∧ p.Returns w r

/-! ## A bay's view -/

/-- All that a bay's soundness speaks of. -/
structure View where
  books : Books
  post : Post
  holdings : UtilId → Nat × Nat

def State.view (s : State) (b : Bay) : View := { books := s.books b, post := s.post b, holdings := s.holdings b }

/-- The bay holds what `h` says, serves what `sv` says, and its books agree. -/
structure View.Serves (V : View) (sv : Option (Nat × Service)) (h : Held) : Prop where
  holdings : V.holdings = h.counts
  serves : V.post.Serves sv
  kept : V.books.Kept sv

/-- The bay is sound between events. -/
def View.Sound (V : View) : Prop := ∃ sv h, V.Serves sv h ∧ V.post.Works sv h

/-- Every bay is sound. -/
def State.BaysSound (s : State) : Prop := ∀ b, (s.view b).Sound

/-- A DORMANT yard is asleep (R175). -/
def State.Quiet (s : State) : Prop :=
  s.mode = .dormant → ∀ b : Bay, s.visit b = none ∧ (s.lane b).st = .idle ∧ (s.lane b).orders = Orders.reset

/-! ## Lists keyed by bay -/

theorem pairwise_keys_iff {α : Type} (l : List α) (f : α → Bay) (g : α → Nat) :
    l.Pairwise (fun x y => ¬ (f x = f y ∧ g x = g y)) ↔ ∀ b, ((l.filter fun x => decide (f x = b)).map g).Nodup := by
  simp only [List.Nodup, List.pairwise_map, List.pairwise_filter, decide_eq_true_eq]
  refine ⟨fun h b => h.imp fun hxy hx hy hg => hxy ⟨hx.trans hy.symm, hg⟩, fun h => ?_⟩
  rw [List.pairwise_iff_getElem]
  rintro i j hi hj hij ⟨hf, hg⟩
  exact (List.pairwise_iff_getElem.mp (h (f l[i]))) i j hi hj hij rfl hf.symm hg

section
variable {s : State} {b : Bay}

theorem exists_record_iff (s : State) (b : Bay) (k : Nat) :
    (∃ r ∈ s.records, r.bay = b ∧ r.index = k) ↔ (s.record? b k).isSome = true := by
  simp only [State.record?, List.find?_isSome, isAt_iff]

theorem record?_mem {k : Nat} {r : Comp} (h : s.record? b k = some r) : r ∈ s.records := List.mem_of_find?_eq_some h

/-- No compartment having two records, each record is its compartment's own. -/
theorem record?_of_mem (hd : s.records.Pairwise fun r q => ¬ (r.bay = q.bay ∧ r.index = q.index)) {r : Comp} (hr : r ∈ s.records) :
    s.record? r.bay r.index = some r := by
  obtain ⟨q, hq⟩ := Option.isSome_iff_exists.mp ((exists_record_iff s r.bay r.index).mp ⟨r, hr, rfl, rfl⟩)
  obtain ⟨hb, hk⟩ := record?_names hq
  by_contra hne
  have hqr : q ≠ r := fun h => hne (h ▸ hq)
  have hsymm : Std.Symm fun r q : Comp => ¬ (r.bay = q.bay ∧ r.index = q.index) := ⟨fun _ _ h hc => h ⟨hc.1.symm, hc.2.symm⟩⟩
  exact hd.forall (record?_mem hq) hr hqr ⟨hb, hk⟩

end

end Sys2Proof.Machine
end

section
/-! PROOFS. The yard is sound exactly when each of its bays is (R2, R63, R65, R87, R116). -/

namespace Sys2Proof.Machine

/-! ## Holdings -/

theorem counts_nothing : Held.nothing.counts = fun _ => (0, 0) := rfl

theorem counts_grant_iff (h : Held) (u : UtilId) : 0 < (h.counts u).1 ↔ h = .grant u := by
  cases h with
  | nothing => simp [Held.counts]
  | claim v => simp [Held.counts]
  | grant v => by_cases hv : u = v <;> simp [Held.counts, hv, eq_comm]

theorem counts_claim_iff (h : Held) (u : UtilId) : 0 < (h.counts u).2 ↔ h = .claim u := by
  cases h with
  | nothing => simp [Held.counts]
  | claim v => by_cases hv : u = v <;> simp [Held.counts, hv, eq_comm]
  | grant v => simp [Held.counts]

theorem counts_sum_le (h : Held) : (allUtils.map fun u => (h.counts u).1 + (h.counts u).2).sum ≤ 1 := by
  cases h with
  | nothing => decide
  | claim u => cases u <;> decide
  | grant u => cases u <;> decide

/-- Counts that come to one in all are those of a claim or of a grant, and to none those of nothing. -/
theorem exists_counts_iff (f : UtilId → Nat × Nat) :
    (allUtils.map fun u => (f u).1 + (f u).2).sum ≤ 1 ↔ ∃ h : Held, f = h.counts := by
  refine ⟨fun hsum => ?_, fun ⟨h, hf⟩ => hf ▸ counts_sum_le h⟩
  by_cases hz : ∀ u, (f u).1 + (f u).2 = 0
  · exact ⟨.nothing, funext fun u => Prod.ext (by have := hz u; simp only [Held.counts]; omega) (by have := hz u; simp only [Held.counts]; omega)⟩
  · obtain ⟨u, hu⟩ := not_forall.mp hz
    rw [((List.perm_cons_erase (mem_allUtils u)).map _).sum_eq, List.map_cons, List.sum_cons] at hsum
    have hone : (f u).1 + (f u).2 = 1 := by omega
    have hrest : ∀ v, v ≠ u → (f v).1 + (f v).2 = 0 := fun v hv => by
      have hmem := List.mem_map_of_mem (f := fun u => (f u).1 + (f u).2) ((List.mem_erase_of_ne hv).mpr (mem_allUtils v))
      have := List.le_sum_of_mem hmem
      omega
    by_cases hg : (f u).1 = 1
    · refine ⟨.grant u, funext fun v => ?_⟩
      by_cases hv : v = u
      · subst hv
        exact Prod.ext (by simp [Held.counts, hg]) (by simp only [Held.counts]; omega)
      · have := hrest v hv
        exact Prod.ext (by simp only [Held.counts, if_neg hv]; omega) (by simp only [Held.counts]; omega)
    · refine ⟨.claim u, funext fun v => ?_⟩
      by_cases hv : v = u
      · subst hv
        exact Prod.ext (by simp only [Held.counts]; omega) (by simp only [Held.counts, if_true]; omega)
      · have := hrest v hv
        exact Prod.ext (by simp only [Held.counts]; omega) (by simp only [Held.counts, if_neg hv]; omega)

section
variable {s : State} {b : Bay}

theorem holdings_sum (s : State) (b : Bay) : ((allUtils.flatMap fun u => (s.util u).grants ++ (s.util u).claims).map Claim.lane).count b =
    (allUtils.map fun u => (s.holdings b u).1 + (s.holdings b u).2).sum := by
  rw [List.map_flatMap, List.count_flatMap]
  refine congrArg List.sum (List.map_congr_left fun u _ => ?_)
  have hlane : ∀ l : List Claim, (l.map Claim.lane).count b = l.countP fun c => decide (c.lane = b) := fun l => by
    rw [List.count_eq_countP, List.countP_map]
    exact List.countP_congr fun c _ => by simp
  rw [Function.comp, List.map_append, List.count_append, hlane, hlane]
  rfl

theorem holdsOne_iff (s : State) : ((allUtils.flatMap fun u => (s.util u).grants ++ (s.util u).claims).map Claim.lane).Nodup ↔
    ∀ b, ∃ h : Held, s.holdings b = h.counts := by
  simp only [List.nodup_iff_count_le_one, holdings_sum, exists_counts_iff]

theorem exists_grant_iff {h : Held} (hh : s.holdings b = h.counts) (u : UtilId) :
    (∃ c ∈ (s.util u).grants, c.lane = b) ↔ h = .grant u := by
  rw [← counts_grant_iff, ← hh]
  simp [State.holdings, List.countP_pos_iff]

theorem exists_claim_iff {h : Held} (hh : s.holdings b = h.counts) (u : UtilId) :
    (∃ c ∈ (s.util u).claims, c.lane = b) ↔ h = .claim u := by
  rw [← counts_claim_iff, ← hh]
  simp [State.holdings, List.countP_pos_iff]

end

end Sys2Proof.Machine
end

section
/-! PROOFS. The yard's soundness and its bays' soundness say the same (R2, R63, R65, R87, R116, R146). -/

namespace Sys2Proof.Machine

/-! ## Places -/

theorem place_eq_washed_iff (r : Comp) : r.place = .washed ↔ r.st = .washing := by
  unfold Comp.place; cases r.st <;> cases r.order <;> simp

theorem place_eq_filled_iff (r : Comp) : r.place = .filled ↔ r.st = .filling := by
  unfold Comp.place; cases r.st <;> cases r.order <;> simp

theorem place_eq_washQueued_iff (r : Comp) : r.place = .washQueued ↔ r.st = .queued := by
  unfold Comp.place; cases r.st <;> cases r.order <;> simp

theorem place_eq_fillQueued_iff (r : Comp) : r.place = .fillQueued ↔ r.st = .certified ∧ r.order.isSome = true := by
  unfold Comp.place; cases r.st <;> cases r.order <;> simp

theorem place_eq_withheld_iff (r : Comp) : r.place = .withheld ↔ r.st = .awaitCert := by
  unfold Comp.place; cases r.st <;> cases r.order <;> simp

theorem serves_iff {p : Post} {sv : Option (Nat × Service)} (h : p.Serves sv) (k : Nat) (w : Service) :
    sv = some (k, w) ↔ p.current = some k ∧ p.service = some w := by
  obtain ⟨hc, hs⟩ := h
  rw [hc, hs]
  rcases sv with _ | ⟨j, x⟩
  · simp
  · simp

namespace Books

variable {B : Books} {sv : Option (Nat × Service)} {k : Nat}

theorem placeOf_some {r : Comp} (h : B.record k = some r) : B.placeOf k = r.place := by rw [placeOf, h]

theorem placeOf_none (h : B.record k = none) : B.placeOf k = .nowhere := by rw [placeOf, h]

/-- A compartment with no record stands nowhere; so one that stands somewhere has a record. -/
theorem record_of_place {p : Place} (h : B.placeOf k = p) (hp : p ≠ .nowhere) : ∃ r, B.record k = some r ∧ r.place = p := by
  cases hr : B.record k with
  | none => exact absurd (h.symm.trans (placeOf_none hr)) hp
  | some r => exact ⟨r, rfl, (placeOf_some hr).symm.trans h⟩

namespace Kept

theorem serves_washing (h : B.Kept sv) (hsv : sv = some (k, .wash)) : ∃ r, B.record k = some r ∧ r.st = .washing := by
  obtain ⟨r, hr, hp⟩ := record_of_place ((h.places k).washed.mp hsv) Place.noConfusion
  exact ⟨r, hr, (place_eq_washed_iff r).mp hp⟩

theorem serves_filling (h : B.Kept sv) (hsv : sv = some (k, .fill)) : ∃ r, B.record k = some r ∧ r.st = .filling := by
  obtain ⟨r, hr, hp⟩ := record_of_place ((h.places k).filled.mp hsv) Place.noConfusion
  exact ⟨r, hr, (place_eq_filled_iff r).mp hp⟩

theorem serves_record (h : B.Kept sv) {w : Service} (hsv : sv = some (k, w)) : ∃ r, B.record k = some r := by
  cases w with
  | wash => exact (h.serves_washing hsv).imp fun _ => And.left
  | fill => exact (h.serves_filling hsv).imp fun _ => And.left

theorem washQueued (h : B.Kept sv) (hq : { index := k, kind := .wash } ∈ B.queue) : ∃ r, B.record k = some r ∧ r.st = .queued := by
  obtain ⟨r, hr, hp⟩ := record_of_place ((h.places k).washQueued.mp hq) Place.noConfusion
  exact ⟨r, hr, (place_eq_washQueued_iff r).mp hp⟩

theorem fillQueued (h : B.Kept sv) (hq : { index := k, kind := .fill } ∈ B.queue) :
    ∃ r, B.record k = some r ∧ r.st = .certified ∧ r.order.isSome = true := by
  obtain ⟨r, hr, hp⟩ := record_of_place ((h.places k).fillQueued.mp hq) Place.noConfusion
  exact ⟨r, hr, (place_eq_fillQueued_iff r).mp hp⟩

theorem withheld_awaits (h : B.Kept sv) (hw : k ∈ B.withheld) : ∃ r, B.record k = some r ∧ r.st = .awaitCert := by
  obtain ⟨r, hr, hp⟩ := record_of_place ((h.places k).withheld.mp hw) Place.noConfusion
  exact ⟨r, hr, (place_eq_withheld_iff r).mp hp⟩

end Kept

end Books

/-! ## From the yard to its bays -/

section
variable {s : State} {b : Bay}

theorem mem_withheld_iff (s : State) (b : Bay) (k : Nat) :
    k ∈ (s.books b).withheld ↔ ∃ w ∈ s.certs.withheld, w.bay = b ∧ w.index = k := by
  simp only [State.books, List.mem_map, List.mem_filter, decide_eq_true_eq, and_assoc]

namespace State.YardSound

theorem serving (h : s.YardSound) (b : Bay) : ∃ sv, (s.post b).Serves sv ∧ ((s.lane b).st = .idle ↔ sv = none) ∧
    ∀ k w, sv = some (k, w) → (s.record? b k).isSome = true := by
  rcases h.laneServes b with ⟨hst, hc, hs⟩ | ⟨hst, hs, r, hr, hb, hc⟩
  · exact ⟨none, ⟨hc, hs⟩, iff_of_true hst rfl, fun _ _ hk => by simp at hk⟩
  · obtain ⟨w, hw⟩ := Option.isSome_iff_exists.mp hs
    refine ⟨some (r.index, w), ⟨hc, hw⟩, iff_of_false hst (Option.some_ne_none _), fun k x hk => ?_⟩
    obtain ⟨rfl, -⟩ := Prod.mk.inj (Option.some.inj hk)
    exact (exists_record_iff s b _).mp ⟨r, hr, hb, rfl⟩

theorem formed (h : s.YardSound) {r : Comp} (hr : r ∈ s.records) : r.Formed where
  achieved := (h.achieved r hr).1
  unachieved := (h.achieved r hr).2
  program := h.program r hr
  certificate := (h.certificate r hr).1
  order := (h.certificate r hr).2

/-- Every compartment stands where its record's state says. -/
theorem places (h : s.YardSound) {sv : Option (Nat × Service)} (hsv : (s.post b).Serves sv)
    (hrec : ∀ k w, sv = some (k, w) → (s.record? b k).isSome = true) (k : Nat) : (s.books b).At sv k ((s.books b).placeOf k) := by
  cases hr : s.record? b k with
  | none =>
    have habsent : ∀ r ∈ s.records, r.bay = b → r.index = k → False := fun r hm hb hk => by
      have := (exists_record_iff s b k).mp ⟨r, hm, hb, hk⟩
      simp [hr] at this
    have hserve : ∀ w, sv ≠ some (k, w) := fun w hw => by simpa [hr] using hrec k w hw
    have hqueue : ∀ w, { index := k, kind := w } ∉ (s.lane b).queue := fun w hq => by
      obtain ⟨r, hm, hb, hk, -⟩ := h.queueRecords b _ hq
      exact habsent r hm hb hk
    rw [Books.placeOf_none (B := s.books b) hr]
    refine ⟨iff_of_false (hserve _) Place.noConfusion, iff_of_false (hserve _) Place.noConfusion,
      iff_of_false (hqueue _) Place.noConfusion, iff_of_false (hqueue _) Place.noConfusion, iff_of_false (fun hw => ?_) Place.noConfusion⟩
    obtain ⟨r, hm, hb, hk, -⟩ := (h.withheldRecords b k).mp ((mem_withheld_iff s b k).mp hw)
    exact habsent r hm hb hk
  | some r =>
    have hm := record?_mem hr
    obtain ⟨rfl, rfl⟩ := record?_names hr
    have hsame : ∀ q ∈ s.records, q.bay = r.bay → q.index = r.index → q = r := fun q hq hb hk => by
      have := record?_of_mem h.recordsDistinct hq
      rw [hb, hk, hr] at this
      exact (Option.some.inj this).symm
    rw [Books.placeOf_some (B := s.books r.bay) hr]
    refine ⟨?_, ?_, ?_, ?_, ?_⟩
    · rw [place_eq_washed_iff, serves_iff hsv]
      exact (h.recordServed r hm).1.symm
    · rw [place_eq_filled_iff, serves_iff hsv]
      exact (h.recordServed r hm).2.symm
    · rw [place_eq_washQueued_iff]
      refine ⟨fun hq => ?_, (h.queueComplete r hm).1⟩
      obtain ⟨q, hq', hb, hk, hw, -⟩ := h.queueRecords r.bay _ hq
      exact hsame q hq' hb hk ▸ hw rfl
    · rw [place_eq_fillQueued_iff]
      refine ⟨fun hq => ?_, fun ⟨hc, ho⟩ => (h.queueComplete r hm).2 hc ho⟩
      obtain ⟨q, hq', hb, hk, -, hf⟩ := h.queueRecords r.bay _ hq
      exact hsame q hq' hb hk ▸ hf rfl
    · rw [place_eq_withheld_iff, mem_withheld_iff, h.withheldRecords]
      refine ⟨fun ⟨q, hq', hb, hk, hst⟩ => hsame q hq' hb hk ▸ hst, fun hst => ⟨r, hm, rfl, rfl, hst⟩⟩

theorem kept (h : s.YardSound) {sv : Option (Nat × Service)} (hsv : (s.post b).Serves sv)
    (hrec : ∀ k w, sv = some (k, w) → (s.record? b k).isSome = true) : (s.books b).Kept sv where
  visit := h.visitCount b
  keys := (pairwise_keys_iff s.records Comp.bay Comp.index).mp h.recordsDistinct b
  records k := (exists_record_iff s b k).symm.trans (h.recordsOfVisits b k)
  formed _ _ hr := h.formed (record?_mem hr)
  places := h.places hsv hrec
  queue := h.queueDistinct b
  withheld := (pairwise_keys_iff s.certs.withheld Withheld.bay Withheld.index).mp h.withheldDistinct b

end State.YardSound

end

end Sys2Proof.Machine
end

section
/-! PROOFS. A lane's state goes with what it serves and holds: the yard's clauses read at one lane, and back (R49, R65, R74, R87, R98). -/

namespace Sys2Proof.Machine

/-- The clauses of a sound yard about one lane, in the words of its post. -/
structure Post.Clauses (p : Post) (h : Held) : Prop where
  washStage : p.service = some .wash → p.ret.getD p.st ≠ .filling
  fillStage : p.service = some .fill → p.ret.getD p.st ∈ [LaneState.seating, .waitResource, .filling, .suspended]
  held : p.st = .held ↔ p.ret.isSome = true
  retIdle : p.ret ≠ some .idle
  retHeld : p.ret ≠ some .held
  caused : p.st = .held → p.holds ≠ Holds.none
  holding : p.holds ≠ Holds.none → p.st = .idle ∨ p.st = .held
  grants : ∀ u, h = .grant u → p.st = .filling ∨ (p.st = .running ∧ p.draws = some u)
  claims : ∀ u, h = .claim u → (p.st = .waitResource ∨ p.st = .suspended) ∧ (p.service = some .wash → p.draws = some u)
  claimed : p.st = .waitResource ∨ p.st = .suspended → ∃ u, h = .claim u
  granted : p.st = .filling ∨ (p.st = .running ∧ p.draws.isSome = true) → ∃ u, h = .grant u
  pinned : p.pin = if p.service = some .wash ∧ p.ret.getD p.st ∈ [LaneState.waitResource, .running, .suspended, .scanning]
    then some p.index else none
  scanned : p.scan.isSome = true ↔ p.st = .scanning ∨ (p.st = .held ∧ p.ret = some .scanning)
  pointer : ∀ x, p.scan = some x → (scanZones x.window x.order)[x.written]? = some x.pointer
  step : ∀ x, p.scan = some x → ∃ stall e n, p.step = .inspect x.window x.order x.threshold stall e n

namespace Post.Clauses

variable {p : Post} {h : Held} {sv : Option (Nat × Service)}

theorem nothing (c : p.Clauses h) (hf : p.st ≠ .filling) (hr : p.st ≠ .running) (hw : p.st ≠ .waitResource) (hs : p.st ≠ .suspended) :
    h = .nothing := by
  cases h with
  | nothing => rfl
  | claim u => exact ((c.claims u rfl).1.elim hw hs).elim
  | grant u => exact ((c.grants u rfl).elim hf fun h => hr h.1).elim

theorem free (c : p.Clauses h) (hi : p.st ≠ .idle) (hh : p.st ≠ .held) : p.Free := by
  refine ⟨?_, ?_⟩
  · cases hr : p.ret with
    | none => rfl
    | some r => exact absurd (c.held.mpr (hr ▸ rfl)) hh
  · by_contra hn
    exact (c.holding hn).elim hi hh

theorem unscanned (c : p.Clauses h) (hs : p.st ≠ .scanning) (hr : p.ret ≠ some .scanning) : p.scan = none := by
  rw [← Option.not_isSome_iff_eq_none, c.scanned]
  exact not_or.mpr ⟨hs, fun h => hr h.2⟩

theorem unpinned (c : p.Clauses h) (hn : ¬ (p.service = some .wash ∧
    p.ret.getD p.st ∈ [LaneState.waitResource, .running, .suspended, .scanning])) : p.pin = none := c.pinned.trans (if_neg hn)

theorem pins (c : p.Clauses h) (hw : p.service = some .wash)
    (hs : p.ret.getD p.st ∈ [LaneState.waitResource, .running, .suspended, .scanning]) : p.pin = some p.index :=
  c.pinned.trans (if_pos ⟨hw, hs⟩)

/-- Outside the states that execute a step neither a pin nor a scan record stands. -/
theorem bare (c : p.Clauses h) (hn : p.ret.getD p.st ∉ [LaneState.waitResource, .running, .suspended, .scanning])
    (hs : p.st ≠ .scanning) (hr : p.ret ≠ some .scanning) : p.Bare := ⟨c.unpinned fun h => hn h.2, c.unscanned hs hr⟩

theorem scans (c : p.Clauses h) (hw : p.service = some .wash) (hs : p.st = .scanning ∨ (p.st = .held ∧ p.ret = some .scanning))
    (hg : p.ret.getD p.st = .scanning) : p.Scans := by
  obtain ⟨x, hx⟩ := Option.isSome_iff_exists.mp (c.scanned.mpr hs)
  obtain ⟨stall, e, n, hd⟩ := c.step x hx
  exact ⟨c.pins hw (by simp [hg]), x, stall, e, n, hx, c.pointer x hx, hd⟩

theorem waits (c : p.Clauses h) {k : Nat} {w : Service} (hsv : p.Serves (some (k, w))) (hst : p.st = .waitResource ∨ p.st = .suspended)
    (hr : p.ret = none) {u : UtilId} (hu : h = .claim u) : p.Waits u w := by
  have hscan : p.scan = none := c.unscanned (by rcases hst with h | h <;> simp [h]) (by simp [hr])
  cases w with
  | wash => exact ⟨⟨c.pins hsv.2 (by rcases hst with h | h <;> simp [hr, h]), hscan⟩, (c.claims u hu).2 hsv.2⟩
  | fill => exact ⟨c.unpinned fun h => by simp [hsv.2] at h, hscan⟩

theorem needs (c : p.Clauses h) (hst : p.st = .running) : h = p.need := by
  unfold Post.need
  cases hd : p.draws with
  | none =>
    cases h with
    | nothing => rfl
    | claim u => exact absurd (c.claims u rfl).1 (by simp [hst])
    | grant u => exact absurd (c.grants u rfl) (by simp [hst, hd])
  | some u =>
    obtain ⟨v, rfl⟩ := c.granted (.inr ⟨hst, by simp [hd]⟩)
    have := c.grants v rfl
    simp only [hst, hd, reduceCtorEq, false_or, true_and, Option.some.injEq] at this
    exact congrArg Held.grant this.symm

/-- A HELD lane's return state is one its service can return to. -/
theorem returns (c : p.Clauses h) {k : Nat} {w : Service} (hsv : p.Serves (some (k, w))) (hst : p.st = .held) {r : LaneState}
    (hr : p.ret = some r) : p.Returns w r := by
  have hg : p.ret.getD p.st = r := by simp [hr]
  have hbare : r ∉ [LaneState.waitResource, .running, .suspended, .scanning] → p.Bare := fun hn =>
    c.bare (hg ▸ hn) (by simp [hst]) (by rintro hs; simp [Option.some.inj (hr.symm.trans hs)] at hn)
  cases w with
  | wash =>
    have hsteps : r ∈ [LaneState.waitResource, .running, .suspended] → p.Steps := fun hm =>
      ⟨c.pins hsv.2 (by rw [hg]; simp at hm ⊢; tauto), c.unscanned (by simp [hst]) (by rw [hr]; rintro ⟨⟩; simp at hm)⟩
    cases r with
    | idle => exact (c.retIdle hr).elim
    | seating => exact hbare (by decide)
    | waitResource => exact hsteps (by decide)
    | running => exact hsteps (by decide)
    | draining => exact hbare (by decide)
    | scanning => exact c.scans hsv.2 (.inr ⟨hst, hr⟩) hg
    | starved => exact hbare (by decide)
    | filling => exact (c.washStage hsv.2 hg).elim
    | held => exact (c.retHeld hr).elim
    | suspended => exact hsteps (by decide)
  | fill =>
    have hstage := c.fillStage hsv.2
    rw [hg] at hstage
    have hfill : p.Bare := ⟨c.unpinned fun h => by simp [hsv.2] at h, c.unscanned (by simp [hst]) (by rw [hr]; rintro ⟨⟩; simp at hstage)⟩
    cases r with
    | seating => exact hfill
    | waitResource => exact hfill
    | filling => exact hfill
    | suspended => exact hfill
    | _ => simp at hstage

/-- The clauses give the state's own line. -/
theorem works (c : p.Clauses h) (hsv : p.Serves sv) (hidle : p.st = .idle ↔ sv = none) : p.Works sv h := by
  have hserve : p.st ≠ .idle → ∃ k w, sv = some (k, w) := fun hn => by
    cases sv with
    | none => exact absurd (hidle.mpr rfl) hn
    | some x => exact ⟨x.1, x.2, rfl⟩
  have hwash : p.st ≠ .idle → p.ret.getD p.st ∉ [LaneState.seating, .waitResource, .filling, .suspended] →
      ∃ k, sv = some (k, .wash) := fun hn hs => by
    obtain ⟨k, w, rfl⟩ := hserve hn
    cases w with
    | wash => exact ⟨k, rfl⟩
    | fill => exact absurd (c.fillStage hsv.2) hs
  have hret : p.st ≠ .held → p.ret = none := fun hn =>
    Option.not_isSome_iff_eq_none.mp (mt c.held.mpr hn)
  have hbare : p.st ∉ [LaneState.waitResource, .running, .suspended, .scanning] → p.st ≠ .held → p.Bare := fun hn hh =>
    c.bare (by simpa [hret hh] using hn) (by simp at hn; exact hn.2.2.2) (by simp [hret hh])
  unfold Post.Works
  cases hst : p.st with
  | idle =>
    exact ⟨hidle.mp hst, hret (by simp [hst]), hbare (by simp [hst]) (by simp [hst]),
      c.nothing (by simp [hst]) (by simp [hst]) (by simp [hst]) (by simp [hst])⟩
  | seating =>
    exact ⟨c.free (by simp [hst]) (by simp [hst]), hbare (by simp [hst]) (by simp [hst]),
      c.nothing (by simp [hst]) (by simp [hst]) (by simp [hst]) (by simp [hst]), hserve (by simp [hst])⟩
  | waitResource =>
    obtain ⟨k, w, rfl⟩ := hserve (by simp [hst])
    obtain ⟨u, hu⟩ := c.claimed (.inl hst)
    exact ⟨c.free (by simp [hst]) (by simp [hst]), k, w, u, rfl, hu, c.waits hsv (.inl hst) (hret (by simp [hst])) hu⟩
  | suspended =>
    obtain ⟨k, w, rfl⟩ := hserve (by simp [hst])
    obtain ⟨u, hu⟩ := c.claimed (.inr hst)
    exact ⟨c.free (by simp [hst]) (by simp [hst]), k, w, u, rfl, hu, c.waits hsv (.inr hst) (hret (by simp [hst])) hu⟩
  | running =>
    obtain ⟨k, rfl⟩ := hwash (by simp [hst]) (by simp [hst, hret])
    refine ⟨c.free (by simp [hst]) (by simp [hst]), ⟨c.pins hsv.2 (by simp [hst, hret]), c.unscanned (by simp [hst]) (by simp [hst, hret])⟩,
      c.needs hst, k, rfl⟩
  | draining =>
    exact ⟨c.free (by simp [hst]) (by simp [hst]), hbare (by simp [hst]) (by simp [hst]),
      c.nothing (by simp [hst]) (by simp [hst]) (by simp [hst]) (by simp [hst]), hwash (by simp [hst]) (by simp [hst, hret])⟩
  | starved =>
    exact ⟨c.free (by simp [hst]) (by simp [hst]), hbare (by simp [hst]) (by simp [hst]),
      c.nothing (by simp [hst]) (by simp [hst]) (by simp [hst]) (by simp [hst]), hwash (by simp [hst]) (by simp [hst, hret])⟩
  | scanning =>
    obtain ⟨k, rfl⟩ := hwash (by simp [hst]) (by simp [hst, hret])
    exact ⟨c.free (by simp [hst]) (by simp [hst]), c.scans hsv.2 (.inl hst) (by simp [hst, hret]),
      c.nothing (by simp [hst]) (by simp [hst]) (by simp [hst]) (by simp [hst]), k, rfl⟩
  | filling =>
    obtain ⟨k, w, rfl⟩ := hserve (by simp [hst])
    obtain ⟨u, hu⟩ := c.granted (.inl hst)
    refine ⟨c.free (by simp [hst]) (by simp [hst]), hbare (by simp [hst]) (by simp [hst]), k, u, ?_, hu⟩
    cases w with
    | wash => exact absurd (by simp [hst, hret]) (c.washStage hsv.2)
    | fill => rfl
  | held =>
    obtain ⟨k, w, rfl⟩ := hserve (by simp [hst])
    obtain ⟨r, hr⟩ := Option.isSome_iff_exists.mp (c.held.mp hst)
    exact ⟨c.caused hst, c.nothing (by simp [hst]) (by simp [hst]) (by simp [hst]) (by simp [hst]), k, w, r, rfl, hr,
      c.returns hsv hst hr⟩

end Post.Clauses

/-! ## Back to the clauses -/

theorem Post.need_eq_grant_iff (p : Post) (u : UtilId) : p.need = .grant u ↔ p.draws = some u := by
  unfold Post.need
  cases p.draws <;> simp

theorem Post.need_ne_claim (p : Post) (u : UtilId) : p.need ≠ .claim u := by
  unfold Post.need
  cases p.draws <;> simp

/-- The state's own line gives the clauses. -/
theorem Post.Works.clauses {p : Post} {sv : Option (Nat × Service)} {h : Held} (hw : p.Works sv h) (hsv : p.Serves sv) : p.Clauses h := by
  obtain ⟨hcur, hserve⟩ := hsv
  unfold Post.Works at hw
  cases hst : p.st with
  | idle =>
    simp only [hst] at hw
    obtain ⟨rfl, hret, ⟨hpin, hscan⟩, rfl⟩ := hw
    constructor <;> simp_all
  | seating =>
    simp only [hst] at hw
    obtain ⟨⟨hret, hholds⟩, ⟨hpin, hscan⟩, rfl, k, w, rfl⟩ := hw
    constructor <;> simp_all
  | waitResource | suspended =>
    simp only [hst] at hw
    obtain ⟨⟨hret, hholds⟩, k, w, u, rfl, rfl, hwait⟩ := hw
    cases w with
    | wash =>
      obtain ⟨⟨hpin, hscan⟩, hdraws⟩ := hwait
      constructor <;> simp_all
    | fill =>
      obtain ⟨hpin, hscan⟩ := hwait
      constructor <;> simp_all
  | running =>
    simp only [hst] at hw
    obtain ⟨⟨hret, hholds⟩, ⟨hpin, hscan⟩, rfl, k, rfl⟩ := hw
    constructor <;> simp_all [Post.need_eq_grant_iff, Post.need_ne_claim, Option.isSome_iff_exists]
  | draining | starved =>
    simp only [hst] at hw
    obtain ⟨⟨hret, hholds⟩, ⟨hpin, hscan⟩, rfl, k, rfl⟩ := hw
    constructor <;> simp_all
  | scanning =>
    simp only [hst] at hw
    obtain ⟨⟨hret, hholds⟩, ⟨hpin, x, stall, e, n, hscan, hptr, hstep⟩, rfl, k, rfl⟩ := hw
    constructor <;> simp_all
  | filling =>
    simp only [hst] at hw
    obtain ⟨⟨hret, hholds⟩, ⟨hpin, hscan⟩, k, u, rfl, rfl⟩ := hw
    constructor <;> simp_all
  | held =>
    simp only [hst] at hw
    obtain ⟨hholds, rfl, k, w, r, rfl, hret, hreturns⟩ := hw
    cases w with
    | wash =>
      cases r with
      | idle | held | filling => exact hreturns.elim
      | seating | draining | starved | waitResource | running | suspended =>
        obtain ⟨hpin, hscan⟩ := hreturns
        constructor <;> simp_all
      | scanning =>
        obtain ⟨hpin, x, stall, e, n, hscan, hptr, hstep⟩ := hreturns
        constructor <;> simp_all
    | fill =>
      cases r with
      | idle | held | running | draining | starved | scanning => exact hreturns.elim
      | seating | waitResource | filling | suspended =>
        obtain ⟨hpin, hscan⟩ := hreturns
        constructor <;> simp_all

end Sys2Proof.Machine
end

section
/-! PROOFS. A yard is sound exactly when each of its bays is, and a DORMANT one asleep. -/

namespace Sys2Proof.Machine

section
variable {s : State} {b : Bay}

theorem stage_eq (l : Lane) : l.stage = l.ret.getD l.st := by
  unfold Lane.stage
  cases l.ret <;> rfl

theorem draws_isSome (p : Post) : p.draws.isSome = true ↔ p.step.utility?.isSome = true := by rw [Post.draws, Option.isSome_map]

theorem State.YardSound.clauses (h : s.YardSound) {hd : Held} (hh : s.holdings b = hd.counts) : (s.post b).Clauses hd where
  washStage hw := by have := (h.laneStates b).1 hw; rwa [stage_eq] at this
  fillStage hw := by have := (h.laneStates b).2 hw; rwa [stage_eq] at this
  held := (h.laneHeld b).1
  retIdle := (h.laneHeld b).2.1
  retHeld := (h.laneHeld b).2.2.1
  caused := (h.laneHeld b).2.2.2.1
  holding := (h.laneHeld b).2.2.2.2
  grants u hu := by
    obtain ⟨c, hc, rfl⟩ := (exists_grant_iff hh u).mpr hu
    exact h.grantStates u c hc
  claims u hu := by
    obtain ⟨c, hc, rfl⟩ := (exists_claim_iff hh u).mpr hu
    exact h.claimStates u c hc
  claimed hst := ((h.stateHolds b).1 hst).imp fun u hu => (exists_claim_iff hh u).mp hu
  granted hst := ((h.stateHolds b).2 (hst.imp_right fun h => ⟨h.1, (draws_isSome _).mp h.2⟩)).imp fun u hu => (exists_grant_iff hh u).mp hu
  pinned := by have := h.pinned b; rwa [stage_eq] at this
  scanned := h.scanPresent b
  pointer := h.scanPointer b
  step := h.scanStep b

theorem State.YardSound.bay (h : s.YardSound) (b : Bay) : (s.view b).Sound := by
  obtain ⟨sv, hsv, hidle, hrec⟩ := h.serving b
  obtain ⟨hd, hh⟩ := (holdsOne_iff s).mp h.holdsOne b
  exact ⟨sv, hd, ⟨hh, hsv, h.kept hsv hrec⟩, (h.clauses hh).works hsv hidle⟩

/-- Where a record's compartment stands, read at the record. -/
theorem Books.Kept.at_record {sv : Option (Nat × Service)} (h : (s.books b).Kept sv) {k : Nat} {r : Comp} (hr : s.record? b k = some r) :
    (s.books b).At sv k r.place := Books.placeOf_some (B := s.books b) hr ▸ h.places k

theorem works_idle_iff {p : Post} {sv : Option (Nat × Service)} {h : Held} (hw : p.Works sv h) : p.st = .idle ↔ sv = none := by
  unfold Post.Works at hw
  cases hst : p.st with
  | idle => rw [hst] at hw; simp [hw.1]
  | seating => rw [hst] at hw; obtain ⟨-, -, -, k, w, rfl⟩ := hw; simp
  | waitResource | suspended => rw [hst] at hw; obtain ⟨-, k, w, u, rfl, -⟩ := hw; simp
  | running | draining | starved | scanning => rw [hst] at hw; obtain ⟨-, -, -, k, rfl⟩ := hw; simp
  | filling => rw [hst] at hw; obtain ⟨-, -, k, u, rfl, -⟩ := hw; simp
  | held => rw [hst] at hw; obtain ⟨-, -, k, w, r, rfl, -⟩ := hw; simp

/-- Every bay sound and a DORMANT yard asleep, the yard is sound. -/
theorem yardSound_of_bays (h : s.BaysSound) (hq : s.Quiet) : s.YardSound := by
  choose sv hd hserves hworks using h
  have kept := fun b => (hserves b).kept
  have hh : ∀ b, s.holdings b = (hd b).counts := fun b => (hserves b).holdings
  have clauses := fun b => (hworks b).clauses (hserves b).serves
  have hd : s.records.Pairwise fun r q => ¬ (r.bay = q.bay ∧ r.index = q.index) :=
    (pairwise_keys_iff s.records Comp.bay Comp.index).mpr fun b => (kept b).keys
  have own := fun {r} => record?_of_mem (s := s) hd (r := r)
  have at_ := fun {r} (hr : r ∈ s.records) => (kept r.bay).at_record (own hr)
  exact {
    visitCount := fun b => (kept b).visit
    recordsDistinct := hd
    recordsOfVisits := fun b k => (exists_record_iff s b k).trans ((kept b).records k)
    laneServes := fun b => by
      have hidle := works_idle_iff (hworks b)
      obtain ⟨hc, hs⟩ := (hserves b).serves
      by_cases hst : (s.lane b).st = .idle
      · rw [hidle.mp hst] at hc hs
        exact .inl ⟨hst, hc, hs⟩
      · cases hsv : sv b with
        | none => exact absurd (hidle.mpr hsv) hst
        | some x =>
          obtain ⟨k, w⟩ := x
          obtain ⟨r, hr⟩ := (kept b).serves_record hsv
          rw [hsv] at hc hs
          obtain ⟨hb, hk⟩ := record?_names (s := s) hr
          exact .inr ⟨hst, Option.isSome_iff_exists.mpr ⟨w, hs⟩, r, record?_mem hr, hb, hk ▸ hc⟩
    laneStates := fun b => by
      rw [stage_eq]
      exact ⟨(clauses b).washStage, (clauses b).fillStage⟩
    laneHeld := fun b => ⟨(clauses b).held, (clauses b).retIdle, (clauses b).retHeld, (clauses b).caused, (clauses b).holding⟩
    dormant := hq
    recordServed := fun r hr => by
      have hserve := serves_iff (hserves r.bay).serves r.index
      refine ⟨?_, ?_⟩
      · rw [← place_eq_washed_iff, ← (at_ hr).washed]
        exact hserve .wash
      · rw [← place_eq_filled_iff, ← (at_ hr).filled]
        exact hserve .fill
    achieved := fun r hr => ⟨((kept r.bay).formed _ r (own hr)).achieved, ((kept r.bay).formed _ r (own hr)).unachieved⟩
    program := fun r hr => ((kept r.bay).formed _ r (own hr)).program
    certificate := fun r hr => ⟨((kept r.bay).formed _ r (own hr)).certificate, ((kept r.bay).formed _ r (own hr)).order⟩
    queueDistinct := fun b => (kept b).queue
    queueRecords := fun b e he => by
      obtain ⟨k, w⟩ := e
      cases w with
      | wash =>
        obtain ⟨r, hr, hst⟩ := (kept b).washQueued he
        exact ⟨r, record?_mem hr, (record?_names hr).1, (record?_names hr).2, fun _ => hst, Service.noConfusion⟩
      | fill =>
        obtain ⟨r, hr, hst⟩ := (kept b).fillQueued he
        exact ⟨r, record?_mem hr, (record?_names hr).1, (record?_names hr).2, Service.noConfusion, fun _ => hst⟩
    queueComplete := fun r hr => ⟨fun h => (at_ hr).washQueued.mpr ((place_eq_washQueued_iff r).mpr h),
      fun h ho => (at_ hr).fillQueued.mpr ((place_eq_fillQueued_iff r).mpr ⟨h, ho⟩)⟩
    withheldDistinct := (pairwise_keys_iff s.certs.withheld Withheld.bay Withheld.index).mpr fun b => (kept b).withheld
    withheldRecords := fun b k => by
      rw [← mem_withheld_iff]
      refine ⟨fun hw => ?_, fun ⟨r, hr, hb, hk, hst⟩ => ?_⟩
      · obtain ⟨r, hr, hst⟩ := (kept b).withheld_awaits hw
        exact ⟨r, record?_mem hr, (record?_names hr).1, (record?_names hr).2, hst⟩
      · subst hb hk
        exact (at_ hr).withheld.mpr ((place_eq_withheld_iff r).mpr hst)
    holdsOne := (holdsOne_iff s).mpr fun b => ⟨_, hh b⟩
    grantStates := fun u c hc => (clauses c.lane).grants u ((exists_grant_iff (hh c.lane) u).mp ⟨c, hc, rfl⟩)
    claimStates := fun u c hc => (clauses c.lane).claims u ((exists_claim_iff (hh c.lane) u).mp ⟨c, hc, rfl⟩)
    stateHolds := fun b => ⟨fun h => ((clauses b).claimed h).imp fun u hu => (exists_claim_iff (hh b) u).mpr hu,
      fun h => ((clauses b).granted (h.imp_right fun h => ⟨h.1, (draws_isSome _).mpr h.2⟩)).imp fun u hu => (exists_grant_iff (hh b) u).mpr hu⟩
    pinned := fun b => by
      rw [stage_eq]
      exact (clauses b).pinned
    scanPresent := fun b => (clauses b).scanned
    scanPointer := fun b => (clauses b).pointer
    scanStep := fun b => (clauses b).step }

theorem yardSound_iff (s : State) : s.YardSound ↔ s.BaysSound ∧ s.Quiet :=
  ⟨fun h => ⟨h.bay, h.dormant⟩, fun h => yardSound_of_bays h.1 h.2⟩

end

end Sys2Proof.Machine
end

section
/-! PROOFS. What each update of the state does to the bays' views: which bay it reaches, and what it sets there. -/

namespace Sys2Proof.Machine

/-! ## Changes of a view -/

namespace View

/-- The lane replaced: its queue, its post's own fields, and its current entry `d`. -/
def withLane (V : View) (m : Lane) (d : Descriptor) : View where
  books := { V.books with queue := m.queue }
  post :=
    { V.post with
      st := m.st, current := m.current, service := m.service, ret := m.ret, holds := m.holds, index := m.index, step := d }
  holdings := V.holdings

def withPin (V : View) (i : Option StepIx) : View := { V with post := { V.post with pin := i } }

def withScan (V : View) (x : Option Scan) : View := { V with post := { V.post with scan := x } }

/-- A compartment's record changed. -/
def withRecord (V : View) (k : Nat) (f : Comp → Comp) : View :=
  { V with books := { V.books with record := Function.update V.books.record k ((V.books.record k).map f) } }

def withHeld (V : View) (h : Held) : View := { V with holdings := h.counts }

def withWithheld (V : View) (l : List Nat) : View := { V with books := { V.books with withheld := l } }

end View

/-! ## Updates that reach no bay -/

section
variable (s : State)

@[simp] theorem view_raiseBay (b : Bay) (e : Event) : (s.raiseBay b e).view = s.view := rfl
@[simp] theorem view_raiseYard (e : Event) : (s.raiseYard e).view = s.view := rfl
@[simp] theorem view_setNotices (u : NoticeUnit) : (s.setNotices u).view = s.view := rfl
@[simp] theorem view_setResidue (b : Bay) (m : ResidueMap) : (s.setResidue b m).view = s.view := rfl
@[simp] theorem view_countFree : s.countFree.view = s.view := rfl
@[simp] theorem view_setPartway (b : Bay) (p : Option (List Byte)) : (s.setPartway b p).view = s.view := rfl

theorem view_setCerts {u : CertUnit} (h : u.withheld = s.certs.withheld) : (s.setCerts u).view = s.view := by
  funext b
  simp only [State.view, State.books, State.setCerts, h]
  rfl

/-! ## Updates that reach one bay -/

theorem view_eq_update {t : State} {b : Bay} {V : View} (hb : t.view b = V) (hd : ∀ d, d ≠ b → t.view d = s.view d) :
    t.view = Function.update s.view b V := by
  funext d
  by_cases h : d = b
  · subst h
    rw [hb, Function.update_self]
  · rw [hd d h, Function.update_of_ne h]

theorem view_setLane (b : Bay) (m : Lane) :
    (s.setLane b m).view = Function.update s.view b ((s.view b).withLane m (s.entry m.index)) := by
  refine view_eq_update s ?_ fun d hd => ?_
  · simp only [State.view, State.books, State.post, State.stepOf, lane_setLane, View.withLane]
    rfl
  · simp only [State.view, State.books, State.post, State.stepOf, lane_setLane_other s m (Ne.symm hd)]
    rfl

theorem view_amendLane (b : Bay) (m : Lane) :
    (s.amendLane b m).view = Function.update s.view b ((s.view b).withLane m (s.entry m.index)) := by
  refine view_eq_update s ?_ fun d hd => ?_
  · simp only [State.view, State.books, State.post, State.stepOf, lane_amendLane, View.withLane]
    rfl
  · simp only [State.view, State.books, State.post, State.stepOf, lane_amendLane_other s m (Ne.symm hd)]
    rfl

theorem view_setPin (b : Bay) (i : Option StepIx) : (s.setPin b i).view = Function.update s.view b ((s.view b).withPin i) := by
  refine view_eq_update s ?_ fun d hd => ?_
  · simp only [State.view, State.post, View.withPin, State.setPin, Vector.getElem_set_self, Fin.getElem_fin]
    rfl
  · have hne : b.val ≠ d.val := fun h => hd (Fin.ext h.symm)
    simp only [State.view, State.post, State.setPin, Fin.getElem_fin, Vector.getElem_set_ne _ _ hne]
    rfl

theorem view_setScan (b : Bay) (x : Option Scan) : (s.setScan b x).view = Function.update s.view b ((s.view b).withScan x) := by
  refine view_eq_update s ?_ fun d hd => ?_
  · simp only [State.view, State.post, View.withScan, scan_setScan]
    rfl
  · simp only [State.view, State.post, scan_setScan_other s x hd]
    rfl

/-- A change of one compartment's record that keeps its name. -/
theorem view_modRecord (b : Bay) (k : Nat) {f : Comp → Comp} (hf : ∀ r, (f r).bay = r.bay ∧ (f r).index = r.index) :
    (s.modRecord b k f).view = Function.update s.view b ((s.view b).withRecord k f) := by
  have hkeys : ∀ d, (((s.modRecord b k f).records.filter fun r => decide (r.bay = d)).map Comp.index) =
      (s.records.filter fun r => decide (r.bay = d)).map Comp.index := fun d => by
    have hname : ∀ r : Comp, (if r.isAt b k then f r else r).bay = r.bay ∧ (if r.isAt b k then f r else r).index = r.index := fun r => by
      split
      · exact hf r
      · exact ⟨rfl, rfl⟩
    rw [State.modRecord, State.setRecords, List.filter_map, List.map_map]
    refine (List.map_congr_left fun r _ => (hname r).2).trans ?_
    exact congrArg (List.map Comp.index) (List.filter_congr fun r _ => decide_eq_decide.mpr (by simp only [(hname r).1]))
  have hother : ∀ d j, ¬ (d = b ∧ j = k) → (s.modRecord b k f).record? d j = s.record? d j := fun d j hne => by
    have hat : ∀ r : Comp, (if r.isAt b k then f r else r).isAt d j = r.isAt d j ∧
        (r.isAt d j = true → (if r.isAt b k then f r else r) = r) := fun r => by
      by_cases hr : r.isAt b k = true
      · have hnot : ∀ q : Comp, q.bay = r.bay → q.index = r.index → ¬ q.isAt d j = true := fun q hb hi hq => by
          obtain ⟨hrb, hrk⟩ := (isAt_iff r b k).mp hr
          obtain ⟨hqb, hqk⟩ := (isAt_iff q d j).mp hq
          exact hne ⟨hqb.symm.trans (hb.trans hrb), hqk.symm.trans (hi.trans hrk)⟩
        rw [if_pos hr, Bool.eq_false_iff.mpr (hnot (f r) (hf r).1 (hf r).2), Bool.eq_false_iff.mpr (hnot r rfl rfl)]
        exact ⟨rfl, fun h => Bool.noConfusion h⟩
      · rw [if_neg hr]
        exact ⟨rfl, fun _ => rfl⟩
    rw [State.record?, State.modRecord, State.setRecords, List.find?_map,
      show ((fun r : Comp => r.isAt d j) ∘ fun r : Comp => if r.isAt b k then f r else r) = fun r => r.isAt d j from
        funext fun r => (hat r).1]
    rw [State.record?]
    cases h : s.records.find? (fun r => r.isAt d j) with
    | none => rfl
    | some r => exact congrArg some ((hat r).2 (List.find?_some (p := fun r : Comp => r.isAt d j) h))
  refine view_eq_update s ?_ fun d hd => ?_
  · have hrec : (s.modRecord b k f).record? b = Function.update (s.record? b) k ((s.record? b k).map f) := funext fun j => by
      by_cases hj : j = k
      · subst hj
        rw [Function.update_self, record?_modRecord hf]
      · rw [Function.update_of_ne hj, hother b j fun h => hj h.2]
    simp only [State.view, State.books, View.withRecord, hkeys, hrec]
    rfl
  · have hrec : (s.modRecord b k f).record? d = s.record? d := funext fun j => hother d j fun h => hd h.1
    simp only [State.view, State.books, hkeys, hrec]
    rfl

end

end Sys2Proof.Machine
end

section
/-! PROOFS. What the utilities' updates do to what the lanes hold: a release, a claim, a grant and a loss of service (R74, R119 to R123). -/

namespace Sys2Proof.Machine

/-- The grants and the claims a lane has in a utility's record. -/
def Util.countsOf (x : Util) (b : Bay) : Nat × Nat :=
  (x.grants.countP fun c => decide (c.lane = b), x.claims.countP fun c => decide (c.lane = b))

section
variable {s : State} {b : Bay} {u : UtilId}

theorem holdings_eq (s : State) (b : Bay) (u : UtilId) : s.holdings b u = (s.util u).countsOf b := rfl

theorem holdings_setUtil (s : State) (u : UtilId) (x : Util) (b : Bay) :
    (s.setUtil u x).holdings b = Function.update (s.holdings b) u (x.countsOf b) := by
  funext v
  by_cases h : v = u
  · subst h
    rw [Function.update_self, holdings_eq, util_setUtil]
  · rw [Function.update_of_ne h, holdings_eq, util_setUtil_other s x (Ne.symm h)]
    rfl

theorem view_setUtil (s : State) (u : UtilId) (x : Util) (b : Bay) : (s.setUtil u x).view b =
    { s.view b with holdings := Function.update (s.holdings b) u (x.countsOf b) } := by
  simp only [State.view, holdings_setUtil]
  rfl

/-- A utility's record changed where no lane's grants or claims change. -/
theorem view_setUtil_same {x : Util} (h : ∀ b, x.countsOf b = (s.util u).countsOf b) : (s.setUtil u x).view = s.view := by
  funext b
  rw [view_setUtil, h, ← holdings_eq, Function.update_eq_self]
  rfl

/-- A utility's record changed for one lane. -/
theorem view_setUtil_one {x : Util} {h : Held} (hb : Function.update (s.holdings b) u (x.countsOf b) = h.counts)
    (hd : ∀ d, d ≠ b → x.countsOf d = (s.util u).countsOf d) :
    (s.setUtil u x).view = Function.update s.view b ((s.view b).withHeld h) := by
  refine view_eq_update s ?_ fun d hne => ?_
  · rw [view_setUtil, hb]
    rfl
  · rw [view_setUtil, hd d hne, ← holdings_eq, Function.update_eq_self]
    rfl

/-! ## Releases -/

theorem countsOf_eq_zero_iff (x : Util) (b : Bay) : x.countsOf b = (0, 0) ↔ ∀ c ∈ x.grants ++ x.claims, c.lane ≠ b := by
  simp only [Util.countsOf, Prod.mk.injEq, List.countP_eq_zero, decide_eq_true_eq, List.mem_append, or_imp, forall_and]

theorem holding_nothing (hh : s.holdings b = Held.nothing.counts) : s.holding b = none := by
  rw [holding_eq_none_iff]
  exact fun u => (countsOf_eq_zero_iff _ b).mp (congrFun hh u)

theorem holding_something {h : Held} (hh : s.holdings b = h.counts) (hu : h.counts u ≠ (0, 0)) : s.holding b = some u := by
  cases hold : s.holding b with
  | none =>
    rw [holding_eq_none_iff] at hold
    exact absurd ((countsOf_eq_zero_iff _ b).mpr (hold u)) (by rw [← holdings_eq, hh]; exact hu)
  | some v =>
    obtain ⟨c, hc, hlane⟩ := holding_holds hold
    have hv : h.counts v ≠ (0, 0) := by
      rw [← hh, holdings_eq, Ne, countsOf_eq_zero_iff]
      exact fun hn => hn c hc hlane
    cases h with
    | nothing => exact absurd rfl hu
    | claim w => simp only [Held.counts, ne_eq, Prod.mk.injEq, true_and, ite_eq_right_iff, one_ne_zero, imp_false, not_not] at hu hv; rw [hu, hv]
    | grant w => simp only [Held.counts, ne_eq, Prod.mk.injEq, and_true, ite_eq_right_iff, one_ne_zero, imp_false, not_not] at hu hv; rw [hu, hv]

theorem countsOf_drop (x : Util) (b d : Bay) : (x.drop b).countsOf d = if d = b then (0, 0) else x.countsOf d := by
  have hcount : ∀ l : List Claim, (l.filter fun c => !(c.lane == b)).countP (fun c => decide (c.lane = d)) =
      if d = b then 0 else l.countP fun c => decide (c.lane = d) := fun l => by
    rw [List.countP_filter]
    by_cases h : d = b
    · subst h
      rw [if_pos rfl, List.countP_eq_zero]
      simp
    · rw [if_neg h]
      exact List.countP_congr fun c _ => by
        by_cases hc : c.lane = d
        · simp [hc, h]
        · simp [hc]
  unfold Util.drop Util.countsOf
  dsimp only
  rw [hcount, hcount]
  split <;> rfl

theorem withHeld_self {h : Held} (hh : s.holdings b = h.counts) : (s.view b).withHeld h = s.view b := by
  simp only [View.withHeld, ← hh]
  rfl

theorem view_drop {h : Held} (hh : s.holdings b = h.counts) (hu : ∀ v, v ≠ u → h.counts v = (0, 0)) :
    (s.setUtil u ((s.util u).drop b)).view = Function.update s.view b ((s.view b).withHeld .nothing) := by
  refine view_setUtil_one ?_ fun d hd => by rw [countsOf_drop, if_neg hd]
  funext v
  by_cases hv : v = u
  · subst hv
    rw [Function.update_self, countsOf_drop, if_pos rfl]
    rfl
  · rw [Function.update_of_ne hv, hh, hu v hv]
    rfl

/-- A release leaves the lane with nothing; the queue it leaves is judged next (R121). -/
theorem release_view {h : Held} (hh : s.holdings b = h.counts) :
    (s.release b).1.view = Function.update s.view b ((s.view b).withHeld .nothing) ∧
      ((h = .nothing ∧ (s.release b).2 = []) ∨ (h ≠ .nothing ∧ ∃ u, (s.release b).2 = [.judge u])) := by
  cases h with
  | nothing =>
    rw [release_none (holding_nothing hh)]
    exact ⟨by rw [withHeld_self hh, Function.update_eq_self], .inl ⟨rfl, rfl⟩⟩
  | claim u =>
    rw [release_some (holding_something (u := u) hh (by simp [Held.counts]))]
    exact ⟨view_drop hh fun v hv => by simp [Held.counts, hv], .inr ⟨Held.noConfusion, u, rfl⟩⟩
  | grant u =>
    rw [release_some (holding_something (u := u) hh (by simp [Held.counts]))]
    exact ⟨view_drop hh fun v hv => by simp [Held.counts, hv], .inr ⟨Held.noConfusion, u, rfl⟩⟩

/-! ## Claims and grants -/

theorem countP_insertClaim (c : Claim) (q : List Claim) (b : Bay) : (insertClaim c q).countP (fun c => decide (c.lane = b)) =
    q.countP (fun c => decide (c.lane = b)) + if c.lane = b then 1 else 0 := by
  rw [(insertClaim_perm c q).countP_eq, List.countP_cons]
  simp only [decide_eq_true_eq]

theorem view_claim (hh : s.holdings b = Held.nothing.counts) :
    (act (.claim b u) s).1.view = Function.update s.view b ((s.view b).withHeld (.claim u)) := by
  show (s.setUtil u ((s.util u).place b (s.urgent b))).view = _
  have hcount : ∀ d, ((s.util u).place b (s.urgent b)).countsOf d =
      (((s.util u).countsOf d).1, ((s.util u).countsOf d).2 + if b = d then 1 else 0) := fun d => by
    rw [Util.countsOf, Util.place, countP_insertClaim]
    rfl
  refine view_setUtil_one ?_ fun d hd => by rw [hcount, if_neg (Ne.symm hd)]; rfl
  funext v
  by_cases hv : v = u
  · subst hv
    rw [Function.update_self, hcount, ← holdings_eq, hh]
    simp [Held.counts]
  · rw [Function.update_of_ne hv, hh]
    simp [Held.counts, hv]

/-- A grant of the head claim turns its lane's claim into a grant. -/
theorem view_grant {c : Claim} {rest : List Claim} {x : Util} (hc : (s.util u).claims = c :: rest) (hclaims : x.claims = rest)
    (hgrants : x.grants = (s.util u).grants ++ [{ c with kept := false }]) (hh : s.holdings c.lane = (Held.claim u).counts) :
    (s.setUtil u x).view = Function.update s.view c.lane ((s.view c.lane).withHeld (.grant u)) := by
  have hnew : ∀ d, x.countsOf d = (((s.util u).countsOf d).1 + (if c.lane = d then 1 else 0), rest.countP fun c => decide (c.lane = d)) :=
    fun d => by
      rw [Util.countsOf, hclaims, hgrants, List.countP_append, List.countP_singleton]
      simp only [decide_eq_true_eq]
      rfl
  have hold : ∀ d, ((s.util u).countsOf d).2 = rest.countP (fun c => decide (c.lane = d)) + if c.lane = d then 1 else 0 := fun d => by
    rw [Util.countsOf, hc, List.countP_cons]
    simp only [decide_eq_true_eq]
  refine view_setUtil_one ?_ fun d hd => ?_
  · have hlane := hold c.lane
    rw [← holdings_eq, hh] at hlane
    simp only [Held.counts, if_true] at hlane
    funext v
    by_cases hv : v = u
    · subst hv
      rw [Function.update_self, hnew, ← holdings_eq, hh]
      exact Prod.ext (by simp [Held.counts]) (by simp only [Held.counts]; omega)
    · rw [Function.update_of_ne hv, hh]
      simp [Held.counts, hv]
  · rw [hnew, if_neg (Ne.symm hd)]
    exact Prod.ext rfl (by rw [hold, if_neg (Ne.symm hd)]; rfl)

end

end Sys2Proof.Machine
end

section
/-! PROOFS. Changes that keep a bay's books: a record touched, taken, left, queued, withheld or certified (R9 to R20, R63 to R69, R144 to R147). -/

namespace Sys2Proof.Machine

namespace Books

variable {B : Books} {sv sv' : Option (Nat × Service)} {k : Nat} {r r' : Comp}

/-- One compartment's record set. -/
def withRecord (B : Books) (k : Nat) (r : Comp) : Books := { B with record := Function.update B.record k (some r) }

theorem record_withRecord (B : Books) (k : Nat) (r : Comp) : (B.withRecord k r).record k = some r := Function.update_self ..

theorem record_withRecord_other (B : Books) {j : Nat} (r : Comp) (h : j ≠ k) : (B.withRecord k r).record j = B.record j :=
  Function.update_of_ne h ..

theorem withRecord_self (hr : B.record k = some r) : B.withRecord k r = B := by
  rw [withRecord, ← hr, Function.update_eq_self]

theorem withRecord_idem (B : Books) (k : Nat) (r r' : Comp) : (B.withRecord k r).withRecord k r' = B.withRecord k r' := by
  simp only [withRecord, Function.update_idem]

/-- A compartment that stands outside the queue has no entry there. -/
theorem At.not_queued {p : Place} (h : B.At sv k p) (hw : p ≠ .washQueued) (hf : p ≠ .fillQueued) (w : Service) :
    { index := k, kind := w } ∉ B.queue := by
  cases w with
  | wash => exact mt h.washQueued.mp hw
  | fill => exact mt h.fillQueued.mp hf

theorem At.not_served {p : Place} (h : B.At sv k p) (hw : p ≠ .washed) (hf : p ≠ .filled) (w : Service) : sv ≠ some (k, w) := by
  cases w with
  | wash => exact mt h.washed.mp hw
  | fill => exact mt h.filled.mp hf

namespace Kept

theorem record_at (h : B.Kept sv) (hr : B.record k = some r) : B.At sv k r.place := placeOf_some hr ▸ h.places k

/-- One compartment's record set and its place with it, the places of all others unchanged. -/
theorem moves {q : List QEntry} {l : List Nat} (h : B.Kept sv) (hr : B.record k = some r) (hf : r'.Formed)
    (hat : ({ B with queue := q, withheld := l } : Books).At sv' k r'.place)
    (hserve : ∀ j, j ≠ k → ∀ w, sv' = some (j, w) ↔ sv = some (j, w))
    (hqueue : ∀ j, j ≠ k → ∀ w, { index := j, kind := w } ∈ q ↔ { index := j, kind := w } ∈ B.queue)
    (hheld : ∀ j, j ≠ k → (j ∈ l ↔ j ∈ B.withheld)) (hq : (q.map QEntry.index).Nodup) (hl : l.Nodup) :
    ({ B with queue := q, withheld := l } : Books).withRecord k r' |>.Kept sv' where
  visit := h.visit
  keys := h.keys
  records j := by
    by_cases hj : j = k
    · subst hj
      rw [record_withRecord]
      exact (iff_of_true rfl rfl).trans ((hr ▸ h.records j : (some r).isSome = true ↔ _))
    · rw [record_withRecord_other _ _ hj]
      exact h.records j
  formed j q hq := by
    by_cases hj : j = k
    · subst hj
      rw [record_withRecord] at hq
      exact Option.some.inj hq ▸ hf
    · rw [record_withRecord_other _ _ hj] at hq
      exact h.formed j q hq
  places j := by
    by_cases hj : j = k
    · subst hj
      rw [placeOf_some (record_withRecord ..)]
      exact ⟨hat.washed, hat.filled, hat.washQueued, hat.fillQueued, hat.withheld⟩
    · have hp : (({ B with queue := q, withheld := l } : Books).withRecord k r').placeOf j = B.placeOf j := by
        rw [placeOf, record_withRecord_other _ _ hj]
        rfl
      have hB := h.places j
      rw [hp]
      exact ⟨(hserve j hj .wash).trans hB.washed, (hserve j hj .fill).trans hB.filled, (hqueue j hj .wash).trans hB.washQueued,
        (hqueue j hj .fill).trans hB.fillQueued, (hheld j hj).trans hB.withheld⟩
  queue := hq
  withheld := hl

/-- A record changed where it stands. -/
theorem touch (h : B.Kept sv) (hr : B.record k = some r) (hp : r'.place = r.place) (hf : r'.Formed) : (B.withRecord k r').Kept sv :=
  h.moves (q := B.queue) (l := B.withheld) hr hf (hp ▸ h.record_at hr) (fun _ _ _ => Iff.rfl) (fun _ _ _ => Iff.rfl) (fun _ _ => Iff.rfl)
    h.queue h.withheld

/-- The lane leaves the compartment it serves, whose record stands nowhere then. -/
theorem leaves {w : Service} (h : B.Kept (some (k, w))) (hr : B.record k = some r) (hp : r'.place = .nowhere) (hf : r'.Formed) :
    (B.withRecord k r').Kept none := by
  have hat := h.record_at hr
  have hplace : r.place = .washed ∨ r.place = .filled := by
    cases w with
    | wash => exact .inl (hat.washed.mp rfl)
    | fill => exact .inr (hat.filled.mp rfl)
  have hno : r.place ≠ .washQueued ∧ r.place ≠ .fillQueued ∧ r.place ≠ .withheld := by rcases hplace with h | h <;> simp [h]
  refine h.moves (q := B.queue) (l := B.withheld) hr hf ?_ (fun j hj x => ?_) (fun _ _ _ => Iff.rfl) (fun _ _ => Iff.rfl) h.queue h.withheld
  · rw [hp]
    exact ⟨by simp, by simp, by simpa using hat.not_queued hno.1 hno.2.1 .wash, by simpa using hat.not_queued hno.1 hno.2.1 .fill,
      by simpa using mt hat.withheld.mp hno.2.2⟩
  · simp [Ne.symm hj]

/-- The head entry leaves the queue, and the lane serves its compartment, or the record stands nowhere. -/
theorem unqueues {w : Service} {q : List QEntry} (h : B.Kept none) (hr : B.record k = some r) (hf : r'.Formed)
    (hp : (sv' = none ∧ r'.place = .nowhere) ∨ (sv' = some (k, .wash) ∧ r'.place = .washed) ∨ (sv' = some (k, .fill) ∧ r'.place = .filled))
    (hmem : { index := k, kind := w } ∈ B.queue) (hq : ∀ e, e ∈ q ↔ e ∈ B.queue ∧ e ≠ { index := k, kind := w })
    (hn : (q.map QEntry.index).Nodup) : ({ B with queue := q } : Books).withRecord k r' |>.Kept sv' := by
  have hone : ∀ x, { index := k, kind := x } ∉ q := fun x hx => by
    obtain ⟨hm, hne⟩ := (hq _).mp hx
    exact hne (List.inj_on_of_nodup_map h.queue hm hmem rfl)
  have hheld : k ∉ B.withheld := fun hw => by
    have hat := h.record_at hr
    have hplace := hat.withheld.mp hw
    exact hat.not_queued (by simp [hplace]) (by simp [hplace]) w hmem
  refine h.moves (l := B.withheld) hr hf ?_ (fun j hj x => ?_) (fun j hj x => ?_) (fun _ _ => Iff.rfl) hn h.withheld
  · rcases hp with ⟨rfl, hp⟩ | ⟨rfl, hp⟩ | ⟨rfl, hp⟩
    all_goals
      rw [hp]
      exact ⟨by simp, by simp, by simpa using hone .wash, by simpa using hone .fill, by simpa using hheld⟩
  · rcases hp with ⟨rfl, -⟩ | ⟨rfl, -⟩ | ⟨rfl, -⟩ <;> simp [Ne.symm hj]
  · rw [hq]
    simp [hj]

/-- An entry for a compartment that stood nowhere joins the queue. -/
theorem queues {w : Service} (h : B.Kept sv) (hr : B.record k = some r) (hnow : r.place = .nowhere) (hf : r'.Formed)
    (hp : r'.place = match w with | .wash => .washQueued | .fill => .fillQueued) :
    ({ B with queue := B.queue ++ [{ index := k, kind := w }] } : Books).withRecord k r' |>.Kept sv := by
  have hat := h.record_at hr
  rw [hnow] at hat
  have hno := hat.not_queued Place.noConfusion Place.noConfusion
  have hserve := hat.not_served Place.noConfusion Place.noConfusion
  have hindex : k ∉ B.queue.map QEntry.index := fun hm => by
    obtain ⟨e, he, rfl⟩ := List.mem_map.mp hm
    exact hno e.kind he
  refine h.moves (l := B.withheld) hr hf ?_ (fun _ _ _ => Iff.rfl) (fun j hj x => by simp [hj]) (fun _ _ => Iff.rfl) ?_ h.withheld
  · have hheld : k ∉ B.withheld := mt hat.withheld.mp Place.noConfusion
    cases w with
    | wash => rw [hp]; exact ⟨by simp [hserve], by simp [hserve], by simp, by simp [hno], by simp [hheld]⟩
    | fill => rw [hp]; exact ⟨by simp [hserve], by simp [hserve], by simp [hno], by simp, by simp [hheld]⟩
  · rw [List.map_append, List.nodup_append]
    exact ⟨h.queue, List.nodup_singleton _, fun i hi j hj he => hindex ((List.mem_singleton.mp hj : j = k) ▸ he ▸ hi)⟩

/-- A compartment that stood nowhere joins the withheld list. -/
theorem withholds (h : B.Kept sv) (hr : B.record k = some r) (hnow : r.place = .nowhere) (hf : r'.Formed) (hp : r'.place = .withheld) :
    ({ B with withheld := B.withheld ++ [k] } : Books).withRecord k r' |>.Kept sv := by
  have hat := h.record_at hr
  rw [hnow] at hat
  have hno := hat.not_queued Place.noConfusion Place.noConfusion
  have hserve := hat.not_served Place.noConfusion Place.noConfusion
  have hheld : k ∉ B.withheld := mt hat.withheld.mp Place.noConfusion
  refine h.moves (q := B.queue) hr hf ?_ (fun _ _ _ => Iff.rfl) (fun _ _ _ => Iff.rfl) (fun j hj => by simp [hj]) h.queue ?_
  · rw [hp]
    exact ⟨by simp [hserve], by simp [hserve], by simp [hno], by simp [hno], by simp⟩
  · exact List.nodup_append.mpr ⟨h.withheld, List.nodup_singleton _, fun i hi j hj he => hheld (List.mem_singleton.mp hj ▸ he ▸ hi)⟩

/-- The head of the withheld list leaves it, and its record stands nowhere. -/
theorem unwithholds {l : List Nat} (h : B.Kept sv) (hl : B.withheld = k :: l) (hr : B.record k = some r) (hf : r'.Formed)
    (hp : r'.place = .nowhere) : ({ B with withheld := l } : Books).withRecord k r' |>.Kept sv := by
  have hat := h.record_at hr
  have hplace := hat.withheld.mp (hl ▸ List.mem_cons_self)
  have hno := hat.not_queued (by simp [hplace]) (by simp [hplace])
  have hserve := hat.not_served (by simp [hplace]) (by simp [hplace])
  obtain ⟨hk, hn⟩ := List.nodup_cons.mp (hl ▸ h.withheld)
  refine h.moves (q := B.queue) hr hf ?_ (fun _ _ _ => Iff.rfl) (fun _ _ _ => Iff.rfl) (fun j hj => by simp [hl, hj]) h.queue hn
  rw [hp]
  exact ⟨by simp [hserve], by simp [hserve], by simp [hno], by simp [hno], by simp [hk]⟩

end Kept

/-! ## A record handed to the certificate unit -/

/-- The record as it would stand unserved and unqueued: the books are kept but for a record about to be handed to the certificate unit. -/
def Limbo (B : Books) (k : Nat) (sv : Option (Nat × Service)) : Prop :=
  ∃ r, B.record k = some r ∧ r.achieved ≤ r.programClass ∧ (B.withRecord k { r with st := .dirty, achieved := 0 }).Kept sv

theorem dirty_place (r : Comp) (n : Nat) : ({ r with st := .dirty, achieved := n } : Comp).place = .nowhere := rfl

/-- Withheld, the record stands in the list (R144). -/
theorem Limbo.awaits (h : B.Limbo k sv) (hr : B.record k = some r) :
    ({ B with withheld := B.withheld ++ [k] } : Books).withRecord k { r with st := .awaitCert } |>.Kept sv := by
  obtain ⟨q, hq, hcls, hkept⟩ := h
  obtain rfl : q = r := Option.some.inj (hq.symm.trans hr)
  have hf : ({ q with st := .awaitCert } : Comp).Formed := ⟨hcls, by simp, by simp, by simp, by simp⟩
  have := hkept.withholds (record_withRecord ..) (dirty_place q 0) hf rfl
  rwa [show ({ B.withRecord k { q with st := .dirty, achieved := 0 } with
      withheld := (B.withRecord k { q with st := .dirty, achieved := 0 }).withheld ++ [k] } : Books) =
    ({ B with withheld := B.withheld ++ [k] } : Books).withRecord k { q with st := .dirty, achieved := 0 } from rfl, withRecord_idem] at this

/-- Issued, the record is CERTIFIED, with a FILL entry for an order it holds (R15, R145). -/
theorem Limbo.certified (h : B.Limbo k sv) (hr : B.record k = some r) (n : Nat) :
    ({ B with queue := if r.order.isSome then B.queue ++ [{ index := k, kind := .fill }] else B.queue } : Books).withRecord k
      { r with st := .certified, cert := some n } |>.Kept sv := by
  obtain ⟨q, hq, hcls, hkept⟩ := h
  obtain rfl : q = r := Option.some.inj (hq.symm.trans hr)
  have hf : ({ q with st := .certified, cert := some n } : Comp).Formed := ⟨hcls, by simp, by simp, by simp, by simp⟩
  cases ho : q.order with
  | none =>
    have hp : ({ q with st := .certified, cert := some n } : Comp).place = .nowhere := by simp [Comp.place, ho]
    have := hkept.touch (record_withRecord ..) (hp.trans (dirty_place q 0).symm) hf
    rwa [withRecord_idem, ho] at this
  | some o =>
    have hp : ({ q with st := .certified, cert := some n } : Comp).place = .fillQueued := by simp [Comp.place, ho]
    have := hkept.queues (w := .fill) (record_withRecord ..) (dirty_place q 0) hf hp
    rwa [show ({ B.withRecord k { q with st := .dirty, achieved := 0 } with
        queue := (B.withRecord k { q with st := .dirty, achieved := 0 }).queue ++ [{ index := k, kind := .fill }] } : Books) =
      ({ B with queue := B.queue ++ [{ index := k, kind := .fill }] } : Books).withRecord k { q with st := .dirty, achieved := 0 } from rfl,
      withRecord_idem, ho] at this

end Books

end Sys2Proof.Machine
end

section
/-! PROOFS. A cascade underway: what each waiting task asks of its bay, and that the bays with none waiting are sound. -/

namespace Sys2Proof.Machine

/-! ## What a task asks of its bay -/

/-- The bay a task finds partway through an event, and leaves sound or to the task that follows it. -/
def Task.bay? : Task → Option Bay
  | .granted b | .fetch b | .claim b _ | .fillWait b | .abort b _ | .aborted b _ | .endFill b _ | .fillEnded b _ | .stepEnd b
  | .stepEnded b | .proceed b | .programEnd b | .toIdle b => some b
  | .judge _ | .back _ | .idle _ | .certify _ _ _ | .drain | .hold _ _ | .unhold _ _ | .modeChange _ _ _ => none

/-- A task that can wait behind others. -/
def Task.waits : Task → Bool
  | .aborted _ _ | .fillEnded _ _ | .stepEnded _ | .toIdle _ | .judge _ | .idle _ | .back _ => true
  | _ => false

/-- How a task finds its bay. -/
def Task.Owes (V : View) : Task → Prop
  | .granted _ => ∃ k w u, V.Serves (some (k, w)) (.grant u) ∧ V.post.st ≠ .idle ∧ V.post.Free ∧ V.post.Waits u w
  | .fetch _ => ∃ k, V.Serves (some (k, .wash)) .nothing ∧ V.post.Free ∧ V.post.Bare
  | .claim _ u => ∃ k w, V.Serves (some (k, w)) .nothing ∧ V.post.st = .waitResource ∧ V.post.Free ∧ V.post.Waits u w
  | .fillWait _ => ∃ k, V.Serves (some (k, .fill)) .nothing ∧ V.post.Free ∧ V.post.Bare
  | .abort _ _ => ∃ k h, V.Serves (some (k, .wash)) h ∧ (V.post.st = .idle → h = .nothing)
  | .aborted _ _ => ∃ k, V.Serves (some (k, .wash)) .nothing
  | .endFill _ _ => ∃ k h, V.Serves (some (k, .fill)) h ∧ V.post.Bare ∧ (V.post.st = .idle → h = .nothing)
  | .fillEnded _ _ => ∃ k, V.Serves (some (k, .fill)) .nothing ∧ V.post.Bare
  | .stepEnd _ => ∃ k h, V.Serves (some (k, .wash)) h ∧ V.post.Free ∧ V.post.scan = none ∧ V.post.st ≠ .idle
  | .stepEnded _ => ∃ k, V.Serves (some (k, .wash)) .nothing ∧ V.post.Free ∧ V.post.scan = none ∧ V.post.st ≠ .idle
  | .proceed _ | .programEnd _ => ∃ k, V.Serves (some (k, .wash)) .nothing ∧ V.post.Free ∧ V.post.Bare ∧ V.post.st ≠ .idle
  | .toIdle _ => V.holdings = Held.nothing.counts ∧ V.books.Kept none ∧ V.post.Bare
  | _ => True

/-- A task that can wait has left its lane with nothing at the utilities. -/
theorem Task.Owes.holdings {V : View} {t : Task} {b : Bay} (h : t.Owes V) (hb : t.bay? = some b) (hw : t.waits = true) :
    V.holdings = Held.nothing.counts := by
  cases t with
  | aborted c why => exact h.elim fun _ hs => hs.holdings
  | fillEnded c e => exact h.elim fun _ hs => hs.1.holdings
  | stepEnded c => exact h.elim fun _ hs => hs.1.holdings
  | toIdle c => exact h.1
  | judge u => exact absurd hb (by simp [Task.bay?])
  | idle c => exact absurd hb (by simp [Task.bay?])
  | back u => exact absurd hb (by simp [Task.bay?])
  | _ => exact Bool.noConfusion hw

/-! ## What follows a task at its bay -/

/-- The tasks that can follow at a bay, and how they find it. -/
inductive View.Follows (V : View) (b : Bay) : List Task → Prop
  | rests (h : V.Sound) : V.Follows b []
  | judges (h : V.Sound) : V.Follows b [.idle b]
  | arbiter (u : UtilId) (h : V.Sound) : V.Follows b [.judge u]
  | next {t : Task} (hb : t.bay? = some b) (h : t.Owes V) : V.Follows b [t]
  | later (u : UtilId) {t : Task} (hb : t.bay? = some b) (hw : t.waits = true) (h : t.Owes V) (hst : V.post.st ≠ .idle) :
      V.Follows b [.judge u, t]
  | certifies (k : Nat) (hh : V.holdings = Held.nothing.counts) (hk : V.books.Limbo k none) (hp : V.post.Bare)
      (hst : V.post.st ≠ .idle) : V.Follows b [.certify b k false, .toIdle b]

/-- A task has reached one bay alone, and left it to what follows. -/
def State.Turns (s : State) (b : Bay) (x : State × List Task) : Prop :=
  ∃ V, x.1.view = Function.update s.view b V ∧ V.Follows b x.2

/-! ## A cascade underway -/

/-- Tasks that wait, each with its own bay partway, `o` being a bay that a task before them has in hand; every other bay is sound. -/
structure State.Tail (s : State) (o : Option Bay) (ts : List Task) : Prop where
  waits : ∀ t ∈ ts, t.waits = true
  distinct : (ts.filterMap Task.bay?).Nodup
  apart : ∀ b, o = some b → b ∉ ts.filterMap Task.bay?
  owes : ∀ t ∈ ts, ∀ b, t.bay? = some b → t.Owes (s.view b) ∧ (s.view b).post.st ≠ .idle
  sound : ∀ b, o ≠ some b → b ∉ ts.filterMap Task.bay? → (s.view b).Sound

/-- A state and its waiting tasks in a cascade that began and will end with every bay sound. -/
inductive State.Underway (s : State) : List Task → Prop
  | tail {ts : List Task} (h : s.Tail none ts) : s.Underway ts
  | next {t : Task} {b : Bay} {ts : List Task} (hb : t.bay? = some b) (ho : t.Owes (s.view b)) (h : s.Tail (some b) ts) :
      s.Underway (t :: ts)
  | certifies {b : Bay} {k : Nat} {ts : List Task} (hh : (s.view b).holdings = Held.nothing.counts) (hk : (s.view b).books.Limbo k none)
      (hp : (s.view b).post.Bare) (hst : (s.view b).post.st ≠ .idle) (h : s.Tail (some b) ts) :
      s.Underway (.certify b k false :: .toIdle b :: ts)

namespace State.Tail

variable {s t : State} {o : Option Bay} {b : Bay} {ts : List Task}

/-- An update of the bay in hand leaves the tail. -/
theorem update (h : s.Tail (some b) ts) {V : View} (hv : t.view = Function.update s.view b V) : t.Tail (some b) ts where
  waits := h.waits
  distinct := h.distinct
  apart := h.apart
  owes x hx d hd := by
    have hne : d ≠ b := by
      rintro rfl
      exact h.apart d rfl (List.mem_filterMap.mpr ⟨x, hx, hd⟩)
    rw [hv, Function.update_of_ne hne]
    exact h.owes x hx d hd
  sound d hd hn := by
    rw [hv, Function.update_of_ne fun h => hd (congrArg some h.symm)]
    exact h.sound d hd hn

theorem congr (h : s.Tail o ts) (hv : t.view = s.view) : t.Tail o ts where
  waits := h.waits
  distinct := h.distinct
  apart := h.apart
  owes := hv ▸ h.owes
  sound := hv ▸ h.sound

/-- The bay in hand sound again, none is in hand. -/
theorem release (h : s.Tail (some b) ts) (hb : (s.view b).Sound) : s.Tail none ts where
  waits := h.waits
  distinct := h.distinct
  apart := nofun
  owes := h.owes
  sound d _ hn := by
    by_cases hd : d = b
    · exact hd ▸ hb
    · exact h.sound d (fun h => hd (Option.some.inj h).symm) hn

/-- A bay with no task waiting is taken in hand. -/
theorem take (h : s.Tail none ts) (hb : b ∉ ts.filterMap Task.bay?) : s.Tail (some b) ts where
  waits := h.waits
  distinct := h.distinct
  apart _ hc := Option.some.inj hc ▸ hb
  owes := h.owes
  sound d _ := h.sound d nofun

theorem of_bays (h : s.BaysSound) : s.Tail o [] where
  waits := nofun
  distinct := List.nodup_nil
  apart _ _ := List.not_mem_nil
  owes := nofun
  sound b _ _ := h b

theorem bays (h : s.Tail none []) : s.BaysSound := fun b => h.sound b nofun List.not_mem_nil

/-- A free task joins the front. -/
theorem cons_free (h : s.Tail o ts) {t : Task} (hb : t.bay? = none) (hw : t.waits = true) : s.Tail o (t :: ts) where
  waits := List.forall_mem_cons.mpr ⟨hw, h.waits⟩
  distinct := by rw [List.filterMap_cons_none hb]; exact h.distinct
  apart := by rw [List.filterMap_cons_none hb]; exact h.apart
  owes := List.forall_mem_cons.mpr ⟨fun b hc => absurd (hb.symm.trans hc) nofun, h.owes⟩
  sound := by rw [List.filterMap_cons_none hb]; exact h.sound

/-- The task of the bay in hand joins the front. -/
theorem cons_own (h : s.Tail (some b) ts) {t : Task} (hb : t.bay? = some b) (hw : t.waits = true) (ho : t.Owes (s.view b))
    (hst : (s.view b).post.st ≠ .idle) : s.Tail none (t :: ts) where
  waits := List.forall_mem_cons.mpr ⟨hw, h.waits⟩
  distinct := by rw [List.filterMap_cons_some hb]; exact List.nodup_cons.mpr ⟨h.apart b rfl, h.distinct⟩
  apart := nofun
  owes := List.forall_mem_cons.mpr ⟨fun c hc => Option.some.inj (hb.symm.trans hc) ▸ ⟨ho, hst⟩, h.owes⟩
  sound d _ hd := by
    rw [List.filterMap_cons_some hb, List.mem_cons, not_or] at hd
    exact h.sound d (fun h => hd.1 (Option.some.inj h).symm) hd.2

theorem uncons_free (h : s.Tail o (x :: ts)) (hb : x.bay? = none) : s.Tail o ts where
  waits := (List.forall_mem_cons.mp h.waits).2
  distinct := by have := h.distinct; rwa [List.filterMap_cons_none hb] at this
  apart := by have := h.apart; rwa [List.filterMap_cons_none hb] at this
  owes := (List.forall_mem_cons.mp h.owes).2
  sound := by have := h.sound; rwa [List.filterMap_cons_none hb] at this

theorem uncons_own {x : Task} (h : s.Tail none (x :: ts)) (hb : x.bay? = some b) : s.Tail (some b) ts ∧ x.Owes (s.view b) := by
  have hd := h.distinct
  rw [List.filterMap_cons_some hb, List.nodup_cons] at hd
  refine ⟨⟨(List.forall_mem_cons.mp h.waits).2, hd.2, fun c hc => Option.some.inj hc ▸ hd.1, (List.forall_mem_cons.mp h.owes).2,
    fun c hc hn => h.sound c nofun ?_⟩, ((List.forall_mem_cons.mp h.owes).1 b hb).1⟩
  rw [List.filterMap_cons_some hb, List.mem_cons, not_or]
  exact ⟨fun h => hc (h ▸ rfl), hn⟩

end State.Tail

/-- What follows at a bay goes on with the tasks that waited. -/
theorem View.Follows.underway {s : State} {b : Bay} {xs ts : List Task} (h : (s.view b).Follows b xs) (ht : s.Tail (some b) ts) :
    s.Underway (xs ++ ts) := by
  cases h with
  | rests h => exact .tail (ht.release h)
  | judges h => exact .tail ((ht.release h).cons_free rfl rfl)
  | arbiter u h => exact .tail ((ht.release h).cons_free rfl rfl)
  | next hb ho => exact .next hb ho ht
  | later u hb hw ho hst => exact .tail ((ht.cons_own hb hw ho hst).cons_free rfl rfl)
  | certifies k hh hk hp hst => exact .certifies hh hk hp hst ht

theorem State.Turns.underway {s : State} {b : Bay} {x : State × List Task} {ts : List Task} (h : s.Turns b x) (ht : s.Tail (some b) ts) :
    x.1.Underway (x.2 ++ ts) := by
  obtain ⟨V, hv, hf⟩ := h
  have hV : x.1.view b = V := by rw [hv, Function.update_self]
  exact View.Follows.underway (hV ▸ hf) (ht.update hv)

end Sys2Proof.Machine
end

section
/-! PROOFS. What each task leaves at its bay: grants, fetches, claims, ends and returns to IDLE (R73 to R82, R90, R132 to R134). -/

namespace Sys2Proof.Machine

section
variable {s t : State} {b : Bay} {V : View} {ts : List Task}

theorem turns_self (h : (s.view b).Follows b ts) : s.Turns b (s, ts) := ⟨s.view b, (Function.update_eq_self ..).symm, h⟩

theorem turns_update (hv : t.view = Function.update s.view b V) (h : V.Follows b ts) : s.Turns b (t, ts) := ⟨V, hv, h⟩

theorem turns_setLane {m : Lane} (hv : t.view = Function.update s.view b V) (h : (V.withLane m (t.entry m.index)).Follows b ts) :
    s.Turns b (t.setLane b m, ts) :=
  ⟨_, by rw [view_setLane, hv, Function.update_self, Function.update_idem], h⟩

theorem turns_amendLane {m : Lane} (hv : t.view = Function.update s.view b V) (h : (V.withLane m (t.entry m.index)).Follows b ts) :
    s.Turns b (t.amendLane b m, ts) :=
  ⟨_, by rw [view_amendLane, hv, Function.update_self, Function.update_idem], h⟩

theorem view_self (s : State) (b : Bay) : s.view = Function.update s.view b (s.view b) := (Function.update_eq_self ..).symm

/-- A record changed and what follows it. -/
theorem view_modRecord_some {k : Nat} {r : Comp} {f : Comp → Comp} (hf : ∀ r, (f r).bay = r.bay ∧ (f r).index = r.index)
    (hv : t.view = Function.update s.view b V) (hr : V.books.record k = some r) :
    (t.modRecord b k f).view = Function.update s.view b { V with books := V.books.withRecord k (f r) } := by
  rw [view_modRecord _ _ _ hf, hv, Function.update_self, Function.update_idem]
  refine congrArg (Function.update s.view b) ?_
  rw [View.withRecord, hr]
  rfl

theorem view_setPin_at {i : Option StepIx} (hv : t.view = Function.update s.view b V) :
    (t.setPin b i).view = Function.update s.view b (V.withPin i) := by
  rw [view_setPin, hv, Function.update_self, Function.update_idem]

theorem view_setScan_at {x : Option Scan} (hv : t.view = Function.update s.view b V) :
    (t.setScan b x).view = Function.update s.view b (V.withScan x) := by
  rw [view_setScan, hv, Function.update_self, Function.update_idem]

/-! ## Grants -/

theorem granted_turns (h : (Task.granted b).Owes (s.view b)) : s.Turns b (act (.granted b) s) := by
  obtain ⟨k, w, u, hs, hst, hfree, hwait⟩ := h
  have hidle : (s.view b).post.st = .idle → Held.grant u = .nothing := fun h => absurd h hst
  cases w with
  | wash =>
    rw [act_granted_wash hs.serves.2]
    obtain ⟨hsteps, hdraws⟩ := hwait
    split
    · refine turns_setLane (view_self s b) (.rests ⟨some (k, .wash), .grant u, ⟨hs.holdings, hs.serves, hs.kept⟩, ?_⟩)
      exact ⟨hfree, hsteps, ((Post.need_eq_grant_iff _ u).mpr hdraws).symm, k, rfl⟩
    · exact turns_self (.next rfl ⟨k, .grant u, hs, hidle⟩)
  | fill =>
    rw [act_granted_fill hs.serves.2]
    split
    · exact turns_setLane (view_self s b) (.rests ⟨some (k, .fill), .grant u, ⟨hs.holdings, hs.serves, hs.kept⟩, hfree, hwait, k, u, rfl, rfl⟩)
    · exact turns_self (.next rfl ⟨k, .grant u, hs, hwait, hidle⟩)

/-! ## Claims -/

theorem claim_turns {u : UtilId} (h : (Task.claim b u).Owes (s.view b)) : s.Turns b (act (.claim b u) s) := by
  obtain ⟨k, w, hs, hst, hfree, hwait⟩ := h
  refine ⟨_, view_claim hs.holdings, .arbiter u ⟨some (k, w), .claim u, ⟨rfl, hs.serves, hs.kept⟩, ?_⟩⟩
  show ((s.view b).withHeld (.claim u)).post.Works (some (k, w)) (.claim u)
  unfold Post.Works
  rw [show ((s.view b).withHeld (.claim u)).post.st = .waitResource from hst]
  exact ⟨hfree, k, w, u, rfl, rfl, hwait⟩

theorem fillWait_turns (h : (Task.fillWait b).Owes (s.view b)) : s.Turns b (act (.fillWait b) s) := by
  obtain ⟨k, hs, hfree, hbare⟩ := h
  have hend : ((s.view b).withLane { s.lane b with st := .waitResource } (s.entry (s.lane b).index)).Follows b [.endFill b .noLine] :=
    .next rfl ⟨k, .nothing, ⟨hs.holdings, hs.serves, hs.kept⟩, hbare, fun _ => rfl⟩
  show s.Turns b (actFillWait b s)
  unfold actFillWait
  dsimp only
  split
  · exact turns_setLane (view_self s b) hend
  · split
    · exact turns_setLane (view_self s b) hend
    · split
      · exact turns_setLane (view_self s b) hend
      · exact turns_setLane (view_self s b) (.next rfl ⟨k, .fill, ⟨hs.holdings, hs.serves, hs.kept⟩, rfl, hfree, hbare⟩)

/-! ## Ends of programs and fills -/

/-- A release and the task that waits for it. -/
theorem release_turns {h : Held} (hh : (s.view b).holdings = h.counts) {x : Task} (hb : x.bay? = some b) (hw : x.waits = true)
    (hst : (s.view b).post.st = .idle → h = .nothing) (ho : x.Owes ((s.view b).withHeld .nothing)) :
    s.Turns b ((s.release b).1, (s.release b).2 ++ [x]) := by
  obtain ⟨hv, hnone, htasks⟩ | ⟨hv, hsome, u, htasks⟩ := (and_or_left.mp (release_view (s := s) hh))
  · exact turns_update hv (by rw [htasks]; exact .next hb ho)
  · exact turns_update hv (by rw [htasks]; exact .later u hb hw ho fun hi => hsome (hst hi))

theorem abort_turns {why : Reason} (h : (Task.abort b why).Owes (s.view b)) : s.Turns b (act (.abort b why) s) := by
  obtain ⟨k, h, hs, hst⟩ := h
  exact release_turns hs.holdings (x := .aborted b why) rfl rfl hst ⟨k, rfl, hs.serves, hs.kept⟩

theorem endFill_turns {e : FillEnd} (h : (Task.endFill b e).Owes (s.view b)) : s.Turns b (act (.endFill b e) s) := by
  obtain ⟨k, h, hs, hbare, hst⟩ := h
  exact release_turns hs.holdings (x := .fillEnded b e) rfl rfl hst ⟨k, ⟨rfl, hs.serves, hs.kept⟩, hbare⟩

theorem stepEnd_turns (h : (Task.stepEnd b).Owes (s.view b)) : s.Turns b (act (.stepEnd b) s) := by
  obtain ⟨k, h, hs, hfree, hscan, hst⟩ := h
  exact release_turns hs.holdings (x := .stepEnded b) rfl rfl (fun hi => absurd hi hst) ⟨k, ⟨rfl, hs.serves, hs.kept⟩, hfree, hscan, hst⟩

/-- A lane IDLE with nothing on it is sound whatever its hold causes. -/
theorem sound_toIdle {m : Lane} {d : Descriptor} (hh : V.holdings = Held.nothing.counts)
    (hk : ({ V.books with queue := m.queue } : Books).Kept none) (hb : V.post.Bare) : (V.withLane m.toIdle d).Sound :=
  ⟨none, .nothing, ⟨hh, ⟨rfl, rfl⟩, hk⟩, rfl, rfl, hb, rfl⟩

theorem aborted_turns {why : Reason} (h : (Task.aborted b why).Owes (s.view b)) : s.Turns b (act (.aborted b why) s) := by
  obtain ⟨k, hs⟩ := h
  obtain ⟨r, hr, hst⟩ := hs.kept.serves_washing rfl
  have hf : (r.abortedFor why (s.lane b).anyLitres).Formed := ⟨Nat.zero_le _, fun _ => rfl, by simp [Comp.abortedFor],
    by simp [Comp.abortedFor], by simp [Comp.abortedFor]⟩
  have hkept := hs.kept.leaves hr (r' := r.abortedFor why (s.lane b).anyLitres) rfl hf
  rw [act_aborted, State.abortedLane, modServed_eq (k := k) (by exact hs.serves.1)]
  have hv := view_modRecord_some (f := fun r => r.abortedFor why (s.lane b).anyLitres) (fun _ => ⟨rfl, rfl⟩)
    (view_setScan_at (x := none) (view_setPin_at (i := none) (view_self s b))) hr
  exact turns_setLane hv (.judges (sound_toIdle hs.holdings hkept ⟨rfl, rfl⟩))

theorem raiseFillExtra_view (s : State) (b : Bay) (e : FillEnd) (k : Nat) (r : Comp) : (s.raiseFillExtra b e k r).view = s.view := by
  cases e <;> rfl

theorem fillEnded_turns {e : FillEnd} (h : (Task.fillEnded b e).Owes (s.view b)) : s.Turns b (act (.fillEnded b e) s) := by
  obtain ⟨k, hs, hbare⟩ := h
  obtain ⟨r, hr, hst⟩ := hs.kept.serves_filling rfl
  have hfr := hs.kept.formed k r hr
  have hf : ({ r with st := .filled, outcome := some e.outcome } : Comp).Formed :=
    ⟨hfr.achieved, by simp, by simp, fun _ => hfr.certificate (by simp [hst]), by simp⟩
  have hkept := hs.kept.leaves hr (r' := { r with st := .filled, outcome := some e.outcome }) rfl hf
  have hv := view_modRecord_some (f := fun r => { r with st := .filled, outcome := some e.outcome }) (fun _ => ⟨rfl, rfl⟩) (view_self s b) hr
  show s.Turns b (actFillEnded b e s)
  unfold actFillEnded
  dsimp only
  rw [modServed_eq (k := k) (by exact hs.serves.1)]
  split
  · exact turns_setLane hv (.judges (sound_toIdle hs.holdings hkept hbare))
  · exact turns_setLane ((view_raiseBay ..).trans ((raiseFillExtra_view ..).trans hv)) (.judges (sound_toIdle hs.holdings hkept hbare))

end

end Sys2Proof.Machine
end

section
/-! PROOFS. What each task leaves at its bay: fetches, steps' ends, proceeds, programs' ends and queue entries taken (R53, R67 to R69, R73,
R78, R81). -/

namespace Sys2Proof.Machine

section
variable {s t : State} {b : Bay} {V : View}

/-! ## Fetches -/

/-- A fetch pins the entry; at a program's first fetch the record loses its dirty reason (R73). -/
theorem fetchBegun_view {k : Nat} (hs : (s.view b).Serves (some (k, .wash)) .nothing) : ∃ B : Books,
    (s.fetchBegun b).view = Function.update s.view b { (s.view b).withPin (some (s.lane b).index) with books := B } ∧
      ({ B with queue := (s.lane b).queue } : Books).Kept (some (k, .wash)) := by
  have hv := view_setPin_at (i := some (s.lane b).index) (view_self s b)
  rw [fetchBegun_eq (k := k) hs.serves.1]
  split
  · obtain ⟨r, hr, hst⟩ := hs.kept.serves_washing rfl
    have hf := hs.kept.formed k r hr
    exact ⟨_, view_modRecord_some (f := fun r => { r with dirty := none }) (fun _ => ⟨rfl, rfl⟩) hv hr,
      hs.kept.touch hr rfl ⟨hf.achieved, hf.unachieved, hf.program, hf.certificate, hf.order⟩⟩
  · exact ⟨_, hv, hs.kept⟩

theorem need_nothing {p : Post} (h : p.step.utility? = none) : p.need = .nothing := by
  rw [Post.need, Post.draws, h]
  rfl

theorem entry_fetchBegun (i : StepIx) : (s.fetchBegun b).entry i = s.entry i := by
  unfold State.fetchBegun
  dsimp only
  split
  · rw [State.entry, store_modServed]
    rfl
  · rfl

theorem fetch_turns (h : (Task.fetch b).Owes (s.view b)) : s.Turns b (act (.fetch b) s) := by
  obtain ⟨k, hs, hfree, hbare⟩ := h
  by_cases hlimit : 64 ≤ (s.lane b).fetched
  · rw [act_fetch_limit hlimit]
    exact turns_self (.next rfl ⟨k, .nothing, hs, fun _ => rfl⟩)
  have hfetched : (s.lane b).fetched < 64 := Nat.not_le.mp hlimit
  obtain ⟨B, hv, hk⟩ := fetchBegun_view hs
  have hinvalid : (s.entry (s.lane b).index).valid = false → s.Turns b (act (.fetch b) s) := fun hvalid => by
    have hab : s.Turns b ((s.fetchBegun b).amendLane b { s.lane b with fetched := (s.lane b).fetched + 1 }, [.abort b .badStep]) :=
      turns_amendLane hv (.next rfl ⟨k, .nothing, ⟨hs.holdings, hs.serves, hk⟩, fun _ => rfl⟩)
    rw [amendLane_fetchBegun] at hab
    rw [act_fetch_invalid hfetched hvalid]
    exact hab
  have hlost : s.Turns b ({ s.fetchBegun b with lanes := (s.fetchBegun b).lanes.set b (s.lane b).begun }, [.abort b .lanceLost]) := by
    have hab : s.Turns b ((s.fetchBegun b).amendLane b (s.lane b).begun, [.abort b .lanceLost]) :=
      turns_amendLane hv (.next rfl ⟨k, .nothing, ⟨hs.holdings, hs.serves, hk⟩, fun _ => rfl⟩)
    rw [amendLane_fetchBegun] at hab
    exact hab
  cases hvalid : (s.entry (s.lane b).index).valid with
  | false => exact hinvalid hvalid
  | true =>
    cases he : s.entry (s.lane b).index with
    | blank => exact hinvalid (by rw [he]; rfl)
    | flush u a l x dr e n =>
      rw [act_fetch_flush hfetched he ((valid_flush_iff ..).mp (he ▸ hvalid))]
      refine turns_setLane hv (.next rfl ⟨k, .wash, ⟨hs.holdings, hs.serves, hk⟩, rfl, hfree, ⟨rfl, hbare.2⟩, ?_⟩)
      show Option.map _ ((s.fetchBegun b).entry (s.lane b).index).utility? = _
      rw [entry_fetchBegun, he]
      rfl
    | blow u a l e n =>
      rw [act_fetch_blow hfetched he ((valid_blow_iff ..).mp (he ▸ hvalid))]
      refine turns_setLane hv (.next rfl ⟨k, .wash, ⟨hs.holdings, hs.serves, hk⟩, rfl, hfree, ⟨rfl, hbare.2⟩, ?_⟩)
      show Option.map _ ((s.fetchBegun b).entry (s.lane b).index).utility? = _
      rw [entry_fetchBegun, he]
      rfl
    | soak a dr e n =>
      rw [act_fetch_soak hfetched he]
      split
      · refine turns_setLane hv (.rests ⟨some (k, .wash), .nothing, ⟨hs.holdings, hs.serves, hk⟩, hfree, ⟨rfl, hbare.2⟩, ?_, k, rfl⟩)
        exact (need_nothing (congrArg Descriptor.utility? ((entry_fetchBegun _).trans he))).symm
      · exact hlost
    | inspect w o x l e n =>
      obtain ⟨hrings, hsectors⟩ := (valid_inspect_iff ..).mp (he ▸ hvalid)
      rw [act_fetch_inspect hfetched he hrings hsectors]
      split
      · refine turns_setLane (view_setScan_at hv) (.rests ⟨some (k, .wash), .nothing, ⟨hs.holdings, hs.serves, hk⟩, hfree, ⟨rfl, ?_⟩, rfl, k, rfl⟩)
        refine ⟨{ pointer := firstZone w o, written := 0, window := w, order := o, threshold := x }, l, e, n, rfl,
          scanZones_first o hrings hsectors, ?_⟩
        exact (entry_fetchBegun _).trans he
      · exact hlost

/-! ## Steps' ends and proceeds -/

theorem stepEnded_turns (h : (Task.stepEnded b).Owes (s.view b)) : s.Turns b (act (.stepEnded b) s) := by
  obtain ⟨k, hs, hfree, hscan, hst⟩ := h
  have hcur : (s.lane b).current = some k := hs.serves.1
  have hv : (s.stepDone b k).view = Function.update s.view b ((s.view b).withPin none) := view_setPin_at (view_self s b)
  cases hd : (s.entry (s.lane b).index).drainAfter with
  | false =>
    rw [act_stepEnded_proceeds hcur hd]
    exact turns_update hv (.next rfl ⟨k, ⟨hs.holdings, hs.serves, hs.kept⟩, hfree, ⟨rfl, hscan⟩, hst⟩)
  | true =>
    rw [act_stepEnded_drains hcur hd]
    split
    · exact turns_setLane hv (.rests ⟨some (k, .wash), .nothing, ⟨hs.holdings, hs.serves, hs.kept⟩, hfree, ⟨rfl, hscan⟩, rfl, k, rfl⟩)
    · exact turns_update hv (.next rfl ⟨k, .nothing, ⟨hs.holdings, hs.serves, hs.kept⟩, fun _ => rfl⟩)

/-- The lane gone on to another index, its fetch next. -/
theorem goNext_turns {m : Lane} {k : Nat} (hs : (s.view b).Serves (some (k, .wash)) .nothing) (hc : m.current = (s.lane b).current)
    (hw : m.service = (s.lane b).service) (hq : m.queue = (s.lane b).queue) (hr : m.ret = none) (hh : m.holds = Holds.none)
    (hb : (s.view b).post.Bare) : s.Turns b (s.goNext b m, [.fetch b]) := by
  have hserves := hs.serves
  have hkept : ({ (s.view b).books with queue := m.queue } : Books).Kept (some (k, .wash)) := by rw [hq]; exact hs.kept
  have hview : (s.nextOf (s.entry m.index)).2.view = Function.update s.view b (s.view b) := by
    unfold State.nextOf
    split
    · exact view_self s b
    · exact view_self s b
  unfold State.goNext
  exact turns_amendLane hview (.next rfl ⟨k, ⟨hs.holdings, ⟨hc.trans hserves.1, hw.trans hserves.2⟩, hkept⟩, ⟨hr, hh⟩, hb⟩)

theorem proceed_turns (h : (Task.proceed b).Owes (s.view b)) : s.Turns b (act (.proceed b) s) := by
  obtain ⟨k, hs, hfree, hbare, hst⟩ := h
  cases he : (s.entry (s.lane b).index).endMark with
  | true =>
    rw [act_proceed_ends he]
    exact turns_self (.next rfl ⟨k, hs, hfree, hbare, hst⟩)
  | false =>
    by_cases hbound : s.boundedAt b (s.lane b).index = true
    · rw [act_proceed_starves he hbound]
      exact turns_setLane (view_self s b) (.rests ⟨some (k, .wash), .nothing, ⟨hs.holdings, hs.serves, hs.kept⟩, hfree, hbare, rfl, k, rfl⟩)
    · rw [act_proceed_goesOn he hbound]
      exact goNext_turns hs rfl rfl rfl hfree.1 hfree.2 hbare

theorem programEnd_turns (h : (Task.programEnd b).Owes (s.view b)) : s.Turns b (act (.programEnd b) s) := by
  obtain ⟨k, hs, hfree, hbare, hst⟩ := h
  obtain ⟨r, hr, hwash⟩ := hs.kept.serves_washing rfl
  have hf := hs.kept.formed k r hr
  obtain ⟨p, hp⟩ := Option.isSome_iff_exists.mp (hf.program (by simp [hwash]))
  cases hi : (s.lane b).inspected with
  | true =>
    rw [act_programEnd_inspected hi hs.serves.1 hr hp]
    have hcls : r.programClass = p.cls := by rw [Comp.programClass, hp]
    have hdirty : ({ r with achieved := 0, st := .dirty } : Comp).Formed := ⟨Nat.zero_le _, fun _ => rfl, by simp, by simp, by simp⟩
    have hlimbo : ((s.view b).books.withRecord k { r with achieved := min p.cls (s.lane b).cap }).Limbo k none := by
      refine ⟨_, Books.record_withRecord .., ?_, ?_⟩
      · exact (min_le_left ..).trans hcls.ge
      · rw [Books.withRecord_idem]
        exact hs.kept.leaves hr rfl hdirty
    exact turns_update (view_modRecord_some (f := fun x => { x with achieved := min p.cls (s.lane b).cap }) (fun _ => ⟨rfl, rfl⟩)
      (view_self s b) hr) (.certifies k hs.holdings hlimbo hbare hst)
  | false =>
    rw [act_programEnd_uninspected hi hs.serves.1]
    have hreferred : ({ r with st := .referred, achieved := 0, verdict := some .uninspected } : Comp).Formed :=
      ⟨Nat.zero_le _, fun _ => rfl, fun _ => by simp [hp], by simp, by simp⟩
    exact turns_update (view_modRecord_some (f := fun x => { x with st := .referred, achieved := 0, verdict := some .uninspected })
        (fun _ => ⟨rfl, rfl⟩) (view_self s b) hr)
      (.next rfl ⟨hs.holdings, hs.kept.leaves hr rfl hreferred, hbare⟩)

theorem toIdle_turns (h : (Task.toIdle b).Owes (s.view b)) : s.Turns b (act (.toIdle b) s) := by
  obtain ⟨hh, hk, hb⟩ := h
  exact turns_setLane (view_self s b) (.judges (sound_toIdle hh hk hb))

/-- Every task that finds its bay partway leaves it to what follows. -/
theorem act_turns {x : Task} (hb : x.bay? = some b) (h : x.Owes (s.view b)) : s.Turns b (act x s) := by
  cases x with
  | granted c => cases hb; exact granted_turns h
  | fetch c => cases hb; exact fetch_turns h
  | claim c u => cases hb; exact claim_turns h
  | fillWait c => cases hb; exact fillWait_turns h
  | abort c why => cases hb; exact abort_turns h
  | aborted c why => cases hb; exact aborted_turns h
  | endFill c e => cases hb; exact endFill_turns h
  | fillEnded c e => cases hb; exact fillEnded_turns h
  | stepEnd c => cases hb; exact stepEnd_turns h
  | stepEnded c => cases hb; exact stepEnded_turns h
  | proceed c => cases hb; exact proceed_turns h
  | programEnd c => cases hb; exact programEnd_turns h
  | toIdle c => cases hb; exact toIdle_turns h
  | _ => cases hb

end

end Sys2Proof.Machine
end

section
/-! PROOFS. An IDLE lane's judgement, the certificate unit and the arbiter within a cascade (R67 to R69, R120, R144 to R149). -/

namespace Sys2Proof.Machine

section
variable {s t : State} {b : Bay} {k : Nat} {sv : Option (Nat × Service)}

/-! ## An IDLE lane's judgement -/

theorem act_idle_empty (hq : (s.lane b).queue = []) : act (.idle b) s = (s, []) := by
  show actIdle b s = _
  unfold actIdle
  dsimp only
  rw [hq]
  exact ite_self _

/-- The entries behind the head are those of the queue but for it. -/
theorem mem_rest_iff {B : Books} (h : B.Kept sv) {e : QEntry} {rest : List QEntry} (hq : B.queue = e :: rest) (x : QEntry) :
    x ∈ rest ↔ x ∈ B.queue ∧ x ≠ e := by
  have hn := List.nodup_cons.mp (hq ▸ h.queue.of_map)
  rw [hq, List.mem_cons]
  refine ⟨fun hx => ⟨.inr hx, fun he => hn.1 (he ▸ hx)⟩, fun ⟨hx, hne⟩ => hx.resolve_left hne⟩

theorem rest_nodup {B : Books} (h : B.Kept sv) {e : QEntry} {rest : List QEntry} (hq : B.queue = e :: rest) :
    (rest.map QEntry.index).Nodup := (List.nodup_cons.mp (hq ▸ h.queue : ((e :: rest).map QEntry.index).Nodup)).2

theorem takeWash_turns {rest : List QEntry} (hh : (s.view b).holdings = Held.nothing.counts) (hk : (s.view b).books.Kept none)
    (hr : (s.lane b).ret = none) (hholds : (s.lane b).holds = Holds.none) (hb : (s.view b).post.Bare)
    (hq : (s.lane b).queue = { index := k, kind := .wash } :: rest) : s.Turns b (s.takeWash b k rest) := by
  have hmem : { index := k, kind := .wash } ∈ (s.lane b).queue := hq ▸ List.mem_cons_self
  obtain ⟨r, hrec, hst⟩ := hk.washQueued hmem
  have hf := hk.formed k r hrec
  obtain ⟨p, hp⟩ := Option.isSome_iff_exists.mp (hf.program (by simp [hst]))
  have hwashing : ({ r with st := .washing, verdict := none, water := 0, chemical := 0, steam := 0, dryer := 0 } : Comp).Formed :=
    ⟨hf.achieved, fun _ => hf.unachieved (by simp [hst]), fun _ => by simp [hp], by simp, by simp⟩
  have hkept := hk.unqueues (sv' := some (k, .wash)) hrec hwashing (.inr (.inl ⟨rfl, rfl⟩)) hmem (mem_rest_iff hk hq) (rest_nodup hk hq)
  have hv : (s.washBegun b k).view = _ := view_modRecord_some
    (f := fun x => { x with st := .washing, verdict := none, water := 0, chemical := 0, steam := 0, dryer := 0 })
    (fun _ => ⟨rfl, rfl⟩) (view_self s b) hrec
  by_cases hseat : (s.lane b).seated = some k
  · rw [takeWash_seated hrec hp hseat]
    exact turns_setLane hv (.next rfl ⟨k, ⟨hh, ⟨rfl, rfl⟩, hkept⟩, ⟨hr, hholds⟩, hb⟩)
  · rw [takeWash_unseated hrec hp hseat]
    exact turns_setLane hv (.rests ⟨some (k, .wash), .nothing, ⟨hh, ⟨rfl, rfl⟩, hkept⟩, ⟨hr, hholds⟩, hb, rfl, k, .wash, rfl⟩)

theorem takeFill_turns {rest : List QEntry} (hh : (s.view b).holdings = Held.nothing.counts) (hk : (s.view b).books.Kept none)
    (hst : (s.lane b).st = .idle) (hc : (s.view b).post.Serves none) (hr : (s.lane b).ret = none) (hholds : (s.lane b).holds = Holds.none)
    (hb : (s.view b).post.Bare) (hq : (s.lane b).queue = { index := k, kind := .fill } :: rest) : s.Turns b (s.takeFill b k rest) := by
  have hmem : { index := k, kind := .fill } ∈ (s.lane b).queue := hq ▸ List.mem_cons_self
  obtain ⟨r, hrec, hcert, horder⟩ := hk.fillQueued hmem
  have hf := hk.formed k r hrec
  obtain ⟨o, ho⟩ := Option.isSome_iff_exists.mp horder
  cases hcause : s.fillStartCause r o with
  | some c =>
    have hdropped : ({ r with order := none } : Comp).Formed :=
      ⟨hf.achieved, fun hm => by simp [hcert] at hm, fun hm => by simp [hcert] at hm, hf.certificate, fun hm => by simp [hcert] at hm⟩
    have hplace : ({ r with order := none } : Comp).place = .nowhere := by simp [Comp.place, hcert]
    have hkept := hk.unqueues (sv' := none) hrec hdropped (.inl ⟨rfl, hplace⟩) hmem (mem_rest_iff hk hq) (rest_nodup hk hq)
    have hv := view_modRecord_some (f := fun x => { x with order := none }) (fun _ => ⟨rfl, rfl⟩) (view_self s b) hrec
    rw [takeFill_refused hrec ho hcause]
    have hworks : ∀ d, ((s.view b).withLane { s.lane b with queue := rest } d).post.Works none .nothing := fun d => by
      unfold Post.Works
      rw [show ((s.view b).withLane { s.lane b with queue := rest } d).post.st = .idle from hst]
      exact ⟨rfl, hr, hb, rfl⟩
    obtain ⟨V, hV, hfollows⟩ := turns_setLane (m := { s.lane b with queue := rest }) hv
      (.judges ⟨none, .nothing, ⟨hh, hc, hkept⟩, hworks _⟩)
    exact turns_update hV hfollows
  | none =>
    have hfilling : ({ r with st := .filling, filled := 0 } : Comp).Formed :=
      ⟨hf.achieved, fun hm => by simp at hm, fun hm => by simp at hm, fun _ => hf.certificate (by simp [hcert]), fun _ => horder⟩
    have hkept := hk.unqueues (sv' := some (k, .fill)) hrec hfilling (.inr (.inr ⟨rfl, rfl⟩)) hmem (mem_rest_iff hk hq) (rest_nodup hk hq)
    have hv := view_modRecord_some (f := fun x => { x with st := .filling, filled := 0 }) (fun _ => ⟨rfl, rfl⟩) (view_self s b) hrec
    by_cases hseat : (s.lane b).seated = some k
    · rw [takeFill_seated hrec ho hcause hseat]
      exact turns_setLane hv (.next rfl ⟨k, ⟨hh, ⟨rfl, rfl⟩, hkept⟩, ⟨hr, hholds⟩, hb⟩)
    · rw [takeFill_unseated hrec ho hcause hseat]
      exact turns_setLane hv (.rests ⟨some (k, .fill), .nothing, ⟨hh, ⟨rfl, rfl⟩, hkept⟩, ⟨hr, hholds⟩, hb, rfl, k, .fill, rfl⟩)

/-- An IDLE lane of a sound bay serves and holds nothing. -/
theorem View.Sound.idle {V : View} (h : V.Sound) (hst : V.post.st = .idle) :
    V.holdings = Held.nothing.counts ∧ V.post.Serves none ∧ V.books.Kept none ∧ V.post.ret = none ∧ V.post.Bare := by
  obtain ⟨sv, hd, hs, hw⟩ := h
  unfold Post.Works at hw
  rw [hst] at hw
  obtain ⟨rfl, hr, hb, rfl⟩ := hw
  exact ⟨hs.holdings, hs.serves, hs.kept, hr, hb⟩

theorem idle_turns (h : (s.view b).Sound) : s.Turns b (act (.idle b) s) := by
  by_cases hgo : (s.lane b).st = .idle ∧ s.mode = .run ∧ (s.lane b).holds = Holds.none
  · obtain ⟨hst, hm, hholds⟩ := hgo
    obtain ⟨hh, hc, hk, hr, hb⟩ := h.idle hst
    cases hq : (s.lane b).queue with
    | nil =>
      rw [act_idle_empty hq]
      exact turns_self (.rests h)
    | cons e rest =>
      obtain ⟨k, w⟩ := e
      cases w with
      | wash =>
        cases hhold : s.certs.hold with
        | true =>
          rw [act_idle_auditHold (headKind_cons hq) hhold]
          exact turns_self (.rests h)
        | false =>
          rw [act_idle_takesWash hst hm hholds hhold hq]
          exact takeWash_turns hh hk hr hholds hb hq
      | fill =>
        rw [act_idle_takesFill hst hm hholds hq]
        exact takeFill_turns hh hk hst hc hr hholds hb hq
  · rw [act_idle_waits (by rwa [not_and_or, not_and_or] at hgo)]
    exact turns_self (.rests h)

/-! ## The certificate unit -/

theorem view_enterAuditHold (s : State) (spent : Bool) (n : Nat) : (s.enterAuditHold spent n).view = s.view :=
  (view_raiseYard ..).trans (view_setCerts _ rfl)

theorem view_judgeBacklog (s : State) : s.judgeBacklog.view = s.view := by
  unfold State.judgeBacklog
  dsimp only
  split
  · rfl
  · exact (view_raiseYard ..).trans (view_setCerts _ rfl)

theorem view_countIssue (s : State) (n : Nat) : (s.countIssue n).view = s.view := by
  have hcount : (s.setCerts { s.certs with counter := satAdd Config.max8 s.certs.counter 1 }).view = s.view := view_setCerts _ rfl
  unfold State.countIssue
  dsimp only
  split
  · exact hcount
  · split
    · exact (view_enterAuditHold ..).trans hcount
    · split
      · exact (view_enterAuditHold ..).trans hcount
      · exact hcount

/-- The withheld list changed for one bay. -/
theorem view_setCerts_withheld {u : CertUnit} {l : List Nat}
    (hb : (u.withheld.filter fun w => decide (w.bay = b)).map Withheld.index = l)
    (hd : ∀ d, d ≠ b → (u.withheld.filter fun w => decide (w.bay = d)) = s.certs.withheld.filter fun w => decide (w.bay = d)) :
    (s.setCerts u).view = Function.update s.view b ((s.view b).withWithheld l) := by
  refine view_eq_update s ?_ fun d hne => ?_
  · simp only [State.view, State.books, State.setCerts, View.withWithheld, hb]
    rfl
  · simp only [State.view, State.books, State.setCerts, hd d hne]
    rfl

theorem withhold_view {V : View} (hV : s.view b = V) (f : Bool) {r : Comp} (hr : V.books.record k = some r) :
    (s.withhold b k f).view = Function.update s.view b { V with
      books := ({ V.books with withheld := V.books.withheld ++ [k] } : Books).withRecord k { r with st := .awaitCert } } := by
  subst hV
  have hv : (s.setCerts { s.certs with withheld := s.certs.withheld ++ [(⟨b, k, f⟩ : Withheld)] }).view =
      Function.update s.view b ((s.view b).withWithheld ((s.view b).books.withheld ++ [k])) := by
    refine view_setCerts_withheld ?_ fun d hd => ?_
    · rw [List.filter_append, List.map_append, List.filter_cons_of_pos (by simp)]
      rfl
    · rw [List.filter_append, List.filter_cons_of_neg (by simpa using Ne.symm hd), List.filter_nil, List.append_nil]
  have hw := view_modRecord_some (f := fun x => { x with st := .awaitCert }) (fun _ => ⟨rfl, rfl⟩) hv hr
  unfold State.withhold
  dsimp only
  split
  · exact (view_enterAuditHold ..).trans hw
  · exact hw

theorem issueTo_view {V : View} (hV : s.view b = V) (n : Nat) (f : Bool) {r : Comp} (hr : V.books.record k = some r) :
    (s.issueTo n r f).view = Function.update s.view b { V with
      books := ({ V.books with
        queue := if r.order.isSome then V.books.queue ++ [{ index := k, kind := .fill }] else V.books.queue } : Books).withRecord k
          { r with st := .certified, cert := some n } } := by
  subst hV
  obtain ⟨rfl, rfl⟩ := record?_names (s := s) hr
  have hlog : (s.logCert n r f).view = Function.update s.view r.bay (s.view r.bay) := (view_setCerts _ rfl).trans (view_self s r.bay)
  have hmod := view_modRecord_some (f := fun x => { x with st := .certified, cert := some n }) (fun _ => ⟨rfl, rfl⟩) hlog hr
  rw [State.issueTo, view_countIssue, view_judgeBacklog, view_raiseBay, State.markCertified]
  dsimp only
  split
  · rw [State.appendEntry, view_setLane, hmod, Function.update_self, Function.update_idem]
    rfl
  · exact hmod

theorem afterIssue_cases (s : State) (b : Bay) : s.afterIssue b = [] ∨ s.afterIssue b = [.idle b] := by
  unfold State.afterIssue
  split
  · exact .inr rfl
  · exact .inl rfl

/-- A record handed over is CERTIFIED or AWAIT_CERT then, and its bay's books are kept. -/
theorem certify_view (h : (s.view b).books.Limbo k sv) (f : Bool) : ∃ B : Books,
    (act (.certify b k f) s).1.view = Function.update s.view b { s.view b with books := B } ∧ B.Kept sv ∧
      ((act (.certify b k f) s).2 = [] ∨ (act (.certify b k f) s).2 = [.idle b]) := by
  obtain ⟨r, hr, -⟩ := id h
  have hr' : s.record? b k = some r := hr
  show ∃ B : Books, (actCertify b k f s).1.view = _ ∧ _ ∧ ((actCertify b k f s).2 = _ ∨ (actCertify b k f s).2 = _)
  unfold actCertify
  simp only [hr']
  cases s.certs.next with
  | none => exact ⟨_, withhold_view rfl f hr, h.awaits hr, .inl rfl⟩
  | some n =>
    dsimp only
    split
    · exact ⟨_, issueTo_view rfl n f hr, h.certified hr n, afterIssue_cases s b⟩
    · exact ⟨_, withhold_view rfl f hr, h.awaits hr, .inl rfl⟩

end

end Sys2Proof.Machine
end

section
/-! PROOFS. A cascade that began with every bay sound, or in the hands of its tasks, ends with every bay sound. -/

namespace Sys2Proof.Machine

section
variable {s t : State} {b : Bay} {ts : List Task}

/-! ## The arbiter, the return to service and the judgement -/

/-- A lane with a claim waits for it. -/
theorem View.Sound.claim {V : View} {u : UtilId} (h : V.Sound) (hu : 0 < (V.holdings u).2) :
    V.holdings = (Held.claim u).counts ∧ V.post.st ≠ .idle ∧
      ∃ k w, V.post.Serves (some (k, w)) ∧ V.books.Kept (some (k, w)) ∧ V.post.Free ∧ V.post.Waits u w := by
  obtain ⟨sv, hd, hs, hw⟩ := h
  obtain rfl : hd = .claim u := (counts_claim_iff hd u).mp (hs.holdings ▸ hu)
  have hst := ((hw.clauses hs.serves).claims u rfl).1
  unfold Post.Works at hw
  rcases hst with hst | hst
  all_goals
    rw [hst] at hw
    obtain ⟨hfree, k, w, v, rfl, hv, hwait⟩ := hw
    obtain rfl := Held.claim.inj hv
    exact ⟨hs.holdings, by simp [hst], k, w, hs.serves, hs.kept, hfree, hwait⟩

theorem judge_underway (h : s.Tail none ts) (u : UtilId) : (act (.judge u) s).1.Underway ((act (.judge u) s).2 ++ ts) := by
  by_cases hwaits : (s.util u).claims = [] ∨ (s.util u).offline = true ∨ (s.util u).fault = true ∨
      (s.util u).capacity ≤ (s.util u).grants.length
  · rw [act_judge_waits hwaits]
    exact .tail h
  simp only [not_or, Bool.not_eq_true, Nat.not_le] at hwaits
  obtain ⟨hclaims, ho, hf, hroom⟩ := hwaits
  obtain ⟨c, rest, hc⟩ := List.exists_cons_of_ne_nil hclaims
  have hpos : 0 < (s.holdings c.lane u).2 := List.countP_pos_iff.mpr ⟨c, hc ▸ List.mem_cons_self, by simp⟩
  have hfree : c.lane ∉ ts.filterMap Task.bay? := fun hm => by
    obtain ⟨x, hx, hb⟩ := List.mem_filterMap.mp hm
    have hnone : s.holdings c.lane = Held.nothing.counts := (h.owes x hx c.lane hb).1.holdings hb (h.waits x hx)
    rw [hnone] at hpos
    exact Nat.lt_irrefl 0 hpos
  obtain ⟨hh, hst, k, w, hserves, hkept, hnohold, hwait⟩ := (h.sound c.lane nofun hfree).claim hpos
  rw [act_judge_grants hc ho hf hroom]
  have hv := view_grant (x := { s.util u with
    claims := rest, grants := (s.util u).grants ++ [{ c with kept := false }],
    returning := (s.util u).returning.map fun n => min 6 (n + 1) }) hc rfl rfl hh
  refine .next (b := c.lane) rfl ?_ (((h.take hfree).update hv).cons_free (t := .judge u) rfl rfl)
  rw [hv, Function.update_self]
  exact ⟨k, w, u, ⟨rfl, hserves, hkept⟩, hst, hnohold, hwait⟩

theorem back_view (u : UtilId) (s : State) : (act (.back u) s).1.view = s.view :=
  (view_raiseYard ..).trans (view_setUtil_same fun _ => rfl)

theorem idle_underway (h : s.Tail none ts) (b : Bay) : (act (.idle b) s).1.Underway ((act (.idle b) s).2 ++ ts) := by
  by_cases hb : b ∈ ts.filterMap Task.bay?
  · obtain ⟨x, hx, hxb⟩ := List.mem_filterMap.mp hb
    rw [act_idle_waits (.inl (h.owes x hx b hxb).2)]
    exact .tail h
  · exact (idle_turns (h.sound b nofun hb)).underway (h.take hb)

theorem certify_underway {k : Nat} (f : Bool) (hh : (s.view b).holdings = Held.nothing.counts) (hk : (s.view b).books.Limbo k none)
    (hp : (s.view b).post.Bare) (hst : (s.view b).post.st ≠ .idle) (h : s.Tail (some b) ts) :
    (act (.certify b k f) s).1.Underway ((act (.certify b k f) s).2 ++ .toIdle b :: ts) := by
  obtain ⟨B, hv, hkept, htasks⟩ := certify_view hk f
  have hV : (act (.certify b k f) s).1.view b = { s.view b with books := B } := by rw [hv, Function.update_self]
  have htail := (h.update hv).cons_own (t := .toIdle b) rfl rfl (by rw [hV]; exact ⟨hh, hkept, hp⟩) (by rw [hV]; exact hst)
  rcases htasks with htasks | htasks
  · rw [htasks]
    exact .tail htail
  · rw [htasks]
    exact .tail (htail.cons_free rfl rfl)

/-! ## Cascades -/

/-- A task carried out leaves the cascade underway. -/
theorem underway_step (x : Task) (ts : List Task) (s : State) (h : s.Underway (x :: ts)) : (act x s).1.Underway ((act x s).2 ++ ts) := by
  cases h with
  | next hb ho ht => exact (act_turns hb ho).underway ht
  | certifies hh hk hp hst ht => exact certify_underway false hh hk hp hst ht
  | tail ht =>
    cases hb : x.bay? with
    | some b =>
      obtain ⟨ht', ho⟩ := ht.uncons_own hb
      exact (act_turns hb ho).underway ht'
    | none =>
      have hw := (List.forall_mem_cons.mp ht.waits).1
      have ht' := ht.uncons_free hb
      cases x with
      | judge u => exact judge_underway ht' u
      | back u => exact .tail (ht'.congr (back_view u s))
      | idle b => exact idle_underway ht' b
      | aborted c why => cases hb
      | fillEnded c e => cases hb
      | stepEnded c => cases hb
      | toIdle c => cases hb
      | _ => exact Bool.noConfusion hw

theorem underway_done (s : State) (h : s.Underway []) : s.BaysSound := by
  cases h with
  | tail h => exact h.bays

theorem settle_underway (h : s.Underway ts) : (s.settle ts).BaysSound :=
  settle_induction (P := State.Underway) underway_step underway_done ts s h

/-- An event that reached one bay, settled to its end. -/
theorem settle_turns (hs : s.BaysSound) (h : s.Turns b (t, ts)) : (t.settle ts).BaysSound :=
  settle_underway (by simpa using h.underway (.of_bays hs))

/-- Judgements and returns of a utility, settled. -/
theorem settle_free (hs : s.BaysSound) (hw : ∀ x ∈ ts, x.bay? = none ∧ x.waits = true) : (s.settle ts).BaysSound := by
  refine settle_underway (.tail ?_)
  induction ts with
  | nil => exact .of_bays hs
  | cons x ts ih =>
    obtain ⟨hx, hts⟩ := List.forall_mem_cons.mp hw
    exact (ih hts).cons_free hx.1 hx.2

/-! ## The drain -/

theorem act_drain_stops (h : s.certs.withheld = [] ∨ s.canIssue = false) : act .drain s = (s, []) := by
  show actDrain s = _
  unfold actDrain
  split
  next w rest n hw hn =>
    rcases h with h | h
    · rw [hw] at h
      cases h
    · exact if_neg (by simp [h])
  next => rfl

theorem act_drain_issues {w : Withheld} {rest : List Withheld} {n : Nat} {r : Comp} (hw : s.certs.withheld = w :: rest)
    (hn : s.certs.next = some n) (hc : s.canIssue = true) (hr : s.record? w.bay w.index = some r) : act .drain s =
      ((s.setCerts { s.certs with withheld := rest }).issueTo n r w.referral,
        (s.setCerts { s.certs with withheld := rest }).afterIssue w.bay ++ [.drain]) := by
  show actDrain s = _
  unfold actDrain
  simp only [hw, hn, if_pos hc]
  split
  next h => exact absurd (hr.symm.trans h) (Option.some_ne_none r)
  next q h =>
    obtain rfl : r = q := Option.some.inj (hr.symm.trans h)
    rfl

theorem drain_turns (hs : s.BaysSound) : act .drain s = (s, []) ∨
    ∃ b t ts, act .drain s = (t, ts ++ [.drain]) ∧ s.Turns b (t, ts) := by
  cases hw : s.certs.withheld with
  | nil => exact .inl (act_drain_stops (.inl hw))
  | cons w rest =>
    cases hc : s.canIssue with
    | false => exact .inl (act_drain_stops (.inr hc))
    | true =>
      obtain ⟨-, -, hnext⟩ := (canIssue_iff s).mp hc
      obtain ⟨n, hn⟩ := Option.ne_none_iff_exists'.mp hnext
      obtain ⟨sv, hd, hserves, hworks⟩ := hs w.bay
      have hlist : (s.view w.bay).books.withheld = w.index :: ((rest.filter fun x => decide (x.bay = w.bay)).map Withheld.index) := by
        show (s.certs.withheld.filter fun x => decide (x.bay = w.bay)).map Withheld.index = _
        rw [hw, List.filter_cons_of_pos (by simp), List.map_cons]
      obtain ⟨r, hr, hst⟩ := hserves.kept.withheld_awaits (k := w.index) (hlist ▸ List.mem_cons_self)
      have hdirty : ({ r with st := .dirty, achieved := 0 } : Comp).Formed := ⟨Nat.zero_le _, fun _ => rfl, by simp, by simp, by simp⟩
      have hlimbo : ({ (s.view w.bay).books with
          withheld := (rest.filter fun x => decide (x.bay = w.bay)).map Withheld.index } : Books).Limbo w.index sv :=
        ⟨r, hr, (hserves.kept.formed _ r hr).achieved, hserves.kept.unwithholds hlist hr hdirty rfl⟩
      have hv : (s.setCerts { s.certs with withheld := rest }).view = Function.update s.view w.bay
          ((s.view w.bay).withWithheld ((rest.filter fun x => decide (x.bay = w.bay)).map Withheld.index)) := by
        refine view_setCerts_withheld rfl fun d hne => ?_
        rw [hw, List.filter_cons_of_neg (by simpa using Ne.symm hne)]
      have hview := issueTo_view (b := w.bay) (k := w.index)
        (V := (s.view w.bay).withWithheld ((rest.filter fun x => decide (x.bay = w.bay)).map Withheld.index))
        (by rw [hv, Function.update_self]) n w.referral hr
      rw [hv, Function.update_idem] at hview
      refine .inr ⟨w.bay, _, _, act_drain_issues hw hn hc hr, turns_update hview ?_⟩
      rcases afterIssue_cases (s.setCerts { s.certs with withheld := rest }) w.bay with h | h
      · rw [h]
        exact .rests ⟨sv, hd, ⟨hserves.holdings, hserves.serves, hlimbo.certified hr n⟩, hworks⟩
      · rw [h]
        exact .judges ⟨sv, hd, ⟨hserves.holdings, hserves.serves, hlimbo.certified hr n⟩, hworks⟩

/-- The drain, to its end. -/
theorem settle_drain (hs : s.BaysSound) : (s.settle [.drain]).BaysSound := by
  refine settle_induction (P := fun s ts => s.Underway ts ∨ ∃ us, ts = us ++ [.drain] ∧ s.Underway us) (fun x ts s h => ?_)
    (fun s h => ?_) [.drain] s (.inr ⟨[], rfl, .tail (.of_bays hs)⟩)
  · rcases h with h | ⟨us, hts, h⟩
    · exact .inl (underway_step x ts s h)
    · cases us with
      | nil =>
        obtain ⟨rfl, rfl⟩ := List.cons.inj hts
        rcases drain_turns (underway_done s h) with hstop | ⟨b, t, us, hact, hturns⟩
        · rw [hstop]
          exact .inl h
        · rw [hact, List.append_nil]
          exact .inr ⟨us, rfl, by simpa using hturns.underway (.of_bays (underway_done s h))⟩
      | cons y us =>
        obtain ⟨rfl, rfl⟩ := List.cons.inj hts
        exact .inr ⟨_, (List.append_assoc ..).symm, underway_step x us s h⟩
  · rcases h with h | ⟨us, hts, -⟩
    · exact underway_done s h
    · simp at hts

end

end Sys2Proof.Machine
end

section
/-! PROOFS. Hold causes within a cascade (R86 to R89), and the tasks that find every bay sound. -/

namespace Sys2Proof.Machine

theorem put_true_ne_none (h : Holds) (c : Cause) : h.put c true ≠ Holds.none := fun hn => by
  have hc : (h.put c true).has c = true := by cases c <;> rfl
  rw [hn, has_none] at hc
  cases hc

theorem ne_none_of_has {h : Holds} {c : Cause} (hc : h.has c = true) : h ≠ Holds.none := by
  rintro rfl
  rw [has_none] at hc
  cases hc

namespace Post

variable {p : Post} {sv : Option (Nat × Service)} {h : Held}

/-- An IDLE or HELD lane keeps its state with other hold causes, of which a HELD one has some. -/
theorem Works.with_holds (hw : p.Works sv h) (hst : p.st = .idle ∨ p.st = .held) {x : Holds} (hx : p.st = .held → x ≠ Holds.none) :
    ({ p with holds := x } : Post).Works sv h := by
  unfold Works at *
  dsimp only
  rcases hst with hst | hst
  · rw [hst] at hw ⊢
    exact hw
  · rw [hst] at hw ⊢
    exact ⟨hx hst, hw.2⟩

/-- Every working state is one its service returns to. -/
theorem Works.returns (hw : p.Works sv h) (hi : p.st ≠ .idle) (hh : p.st ≠ .held) : ∃ k w, sv = some (k, w) ∧ p.Returns w p.st := by
  unfold Works at hw
  cases hst : p.st with
  | idle => exact absurd hst hi
  | held => exact absurd hst hh
  | seating =>
    rw [hst] at hw
    obtain ⟨-, hb, -, k, w, rfl⟩ := hw
    cases w with
    | wash => exact ⟨k, .wash, rfl, hb⟩
    | fill => exact ⟨k, .fill, rfl, hb⟩
  | waitResource | suspended =>
    rw [hst] at hw
    obtain ⟨-, k, w, u, rfl, -, hwait⟩ := hw
    cases w with
    | wash => exact ⟨k, .wash, rfl, hwait.1⟩
    | fill => exact ⟨k, .fill, rfl, hwait⟩
  | running | draining | starved | scanning =>
    rw [hst] at hw
    obtain ⟨-, hp, -, k, rfl⟩ := hw
    exact ⟨k, .wash, rfl, hp⟩
  | filling =>
    rw [hst] at hw
    obtain ⟨-, hb, k, u, rfl, -⟩ := hw
    exact ⟨k, .fill, rfl, hb⟩

/-- A HELD lane holds nothing, and its return state is one its service returns to. -/
theorem Works.held (hw : p.Works sv h) (hst : p.st = .held) :
    h = .nothing ∧ ∃ k w r, sv = some (k, w) ∧ p.ret = some r ∧ p.Returns w r := by
  unfold Works at hw
  rw [hst] at hw
  exact hw.2

end Post

section
variable {s t : State} {b : Bay} {c : Cause} {m : Lane} {ts : List Task}

/-! ## A cause added -/

theorem hold_turns (h : (s.view b).Sound) (c : Cause) : s.Turns b (act (.hold b c) s) := by
  obtain ⟨sv, hd, hs, hw⟩ := id h
  have hclauses := hw.clauses hs.serves
  cases hc : (s.lane b).holds.has c with
  | true =>
    rw [act_hold_present hc]
    exact turns_self (.rests h)
  | false =>
    by_cases hadd : (s.lane b).st = .idle ∨ (s.lane b).holds ≠ Holds.none
    · rw [act_hold_adds hc hadd]
      exact turns_setLane (view_self s b) (.rests ⟨sv, hd, ⟨hs.holdings, hs.serves, hs.kept⟩,
        hw.with_holds (hadd.elim .inl hclauses.holding) fun _ => put_true_ne_none _ _⟩)
    · obtain ⟨hi, hn⟩ := not_or.mp hadd
      have hn' := not_not.mp hn
      have hheld : (s.lane b).st ≠ .held := fun hst => hn (hclauses.caused hst)
      obtain ⟨k, w, rfl, hreturns⟩ := hw.returns hi hheld
      rw [act_hold_stops hi hn']
      have hv := view_setLane s b { s.lane b with holds := (s.lane b).holds.put c true, ret := some (s.lane b).st, st := .held }
      obtain ⟨hr, htasks⟩ := release_view (s := s.setLane b { s.lane b with
        holds := (s.lane b).holds.put c true, ret := some (s.lane b).st, st := .held }) (b := b) (h := hd) hs.holdings
      rw [hv, Function.update_self, Function.update_idem] at hr
      have hsound : (((s.view b).withLane { s.lane b with holds := (s.lane b).holds.put c true, ret := some (s.lane b).st, st := .held }
          (s.entry (s.lane b).index)).withHeld .nothing).Sound :=
        ⟨some (k, w), .nothing, ⟨rfl, hs.serves, hs.kept⟩, put_true_ne_none _ _, rfl, k, w, _, rfl, rfl, by cases w <;> exact hreturns⟩
      refine ⟨_, hr, ?_⟩
      rcases htasks with ⟨-, htasks⟩ | ⟨-, u, htasks⟩
      · rw [htasks]
        exact .rests hsound
      · rw [htasks]
        exact .arbiter u hsound

/-! ## A cause removed -/

theorem resume_runs_on (hr : m.ret = some .running ∨ m.ret = some .waitResource ∨ m.ret = some .suspended)
    (hw : m.service = some .wash) (hu : (s.entry m.index).utility? = none) : s.resume b m = s.resumeChecked b m .running m.timer := by
  have hno : m.service ≠ some .fill := by simp [hw]
  rcases hr with hr | hr | hr <;> simp only [State.resume, hr, if_neg hno, hu]

/-- A HELD lane whose last cause is gone. -/
def Lane.unheld (l : Lane) : Lane := { l with holds := Holds.none }

/-- A state that needs the lance is entered after the lance check, or the program aborted. -/
theorem resumeChecked_turns {k : Nat} (hs : (s.view b).Serves (some (k, .wash)) .nothing) {st : LaneState} {timer : Nat}
    (hw : ({ (s.view b).post with st := st, ret := none, holds := Holds.none } : Post).Works (some (k, .wash)) .nothing) :
    s.Turns b (s.resumeChecked b (s.lane b).unheld st timer) := by
  unfold State.resumeChecked
  split
  · exact turns_setLane (view_self s b) (.rests ⟨some (k, .wash), .nothing, ⟨hs.holdings, hs.serves, hs.kept⟩, hw⟩)
  · exact turns_setLane (view_self s b) (.next rfl ⟨k, .nothing, ⟨hs.holdings, hs.serves, hs.kept⟩, fun _ => rfl⟩)

theorem resume_wash_turns {k : Nat} (hs : (s.view b).Serves (some (k, .wash)) .nothing) {r : LaneState} (hr : (s.lane b).unheld.ret = some r)
    (hreturns : (s.view b).post.Returns .wash r) : s.Turns b (s.resume b (s.lane b).unheld) := by
  have hwash : (s.lane b).service = some .wash := hs.serves.2
  have hsteps : (r = .running ∨ r = .waitResource ∨ r = .suspended) → (s.view b).post.Steps → s.Turns b (s.resume b (s.lane b).unheld) :=
    fun hcase hp => by
      have hret : (s.lane b).unheld.ret = some .running ∨ (s.lane b).unheld.ret = some .waitResource ∨
          (s.lane b).unheld.ret = some .suspended := by rcases hcase with rfl | rfl | rfl <;> simp [hr]
      cases hu : (s.entry (s.lane b).index).utility? with
      | some u =>
        rw [resume_claims hret hwash hu]
        refine turns_setLane (view_self s b) (.next rfl ⟨k, .wash, ⟨hs.holdings, hs.serves, hs.kept⟩, rfl, ⟨rfl, rfl⟩, hp, ?_⟩)
        exact congrArg (Option.map WashUtil.util) hu
      | none =>
        rw [resume_runs_on hret hwash hu]
        exact resumeChecked_turns hs ⟨⟨rfl, rfl⟩, hp, (need_nothing hu).symm, k, rfl⟩
  cases r with
  | seating =>
    by_cases hseat : (s.lane b).unheld.seated = (s.lane b).unheld.current
    · rw [resume_seated hr hseat, if_neg (by rw [show (s.lane b).unheld.service = some .wash from hwash]; simp)]
      exact turns_setLane (view_self s b) (.next rfl ⟨k, ⟨hs.holdings, hs.serves, hs.kept⟩, ⟨rfl, rfl⟩, hreturns⟩)
    · rw [resume_seats hr hseat]
      exact turns_setLane (view_self s b) (.rests ⟨some (k, .wash), .nothing, ⟨hs.holdings, hs.serves, hs.kept⟩, ⟨rfl, rfl⟩, hreturns, rfl, k,
        .wash, rfl⟩)
  | draining =>
    rw [resume_checked (.inl rfl) hr]
    exact resumeChecked_turns hs ⟨⟨rfl, rfl⟩, hreturns, rfl, k, rfl⟩
  | scanning =>
    rw [resume_checked (.inr rfl) hr]
    exact resumeChecked_turns hs ⟨⟨rfl, rfl⟩, hreturns, rfl, k, rfl⟩
  | starved =>
    cases hrelease : (s.lane b).unheld.starveRelease with
    | true =>
      rw [resume_released hr hrelease]
      exact goNext_turns hs rfl rfl rfl rfl rfl hreturns
    | false =>
      rw [resume_starves hr hrelease]
      exact turns_setLane (view_self s b) (.rests ⟨some (k, .wash), .nothing, ⟨hs.holdings, hs.serves, hs.kept⟩, ⟨rfl, rfl⟩, hreturns, rfl, k,
        rfl⟩)
  | running => exact hsteps (.inl rfl) hreturns
  | waitResource => exact hsteps (.inr (.inl rfl)) hreturns
  | suspended => exact hsteps (.inr (.inr rfl)) hreturns
  | idle => exact hreturns.elim
  | filling => exact hreturns.elim
  | held => exact hreturns.elim

theorem resume_fill_turns {k : Nat} (hs : (s.view b).Serves (some (k, .fill)) .nothing) {r : LaneState} (hr : (s.lane b).unheld.ret = some r)
    (hreturns : (s.view b).post.Returns .fill r) : s.Turns b (s.resume b (s.lane b).unheld) := by
  have hfill : (s.lane b).unheld.service = some .fill := hs.serves.2
  have hwaits : (r = .filling ∨ r = .waitResource ∨ r = .suspended) → (s.view b).post.Bare → s.Turns b (s.resume b (s.lane b).unheld) :=
    fun hcase hp => by
      rw [resume_fills (by rcases hcase with rfl | rfl | rfl <;> simp [hr]) hfill]
      exact turns_setLane (view_self s b) (.next rfl ⟨k, ⟨hs.holdings, hs.serves, hs.kept⟩, ⟨rfl, rfl⟩, hp⟩)
  cases r with
  | seating =>
    by_cases hseat : (s.lane b).unheld.seated = (s.lane b).unheld.current
    · rw [resume_seated hr hseat, if_pos hfill]
      exact turns_setLane (view_self s b) (.next rfl ⟨k, ⟨hs.holdings, hs.serves, hs.kept⟩, ⟨rfl, rfl⟩, hreturns⟩)
    · rw [resume_seats hr hseat]
      exact turns_setLane (view_self s b) (.rests ⟨some (k, .fill), .nothing, ⟨hs.holdings, hs.serves, hs.kept⟩, ⟨rfl, rfl⟩, hreturns, rfl, k,
        .fill, rfl⟩)
  | waitResource => exact hwaits (.inr (.inl rfl)) hreturns
  | filling => exact hwaits (.inl rfl) hreturns
  | suspended => exact hwaits (.inr (.inr rfl)) hreturns
  | idle => exact hreturns.elim
  | running => exact hreturns.elim
  | draining => exact hreturns.elim
  | scanning => exact hreturns.elim
  | starved => exact hreturns.elim
  | held => exact hreturns.elim

theorem unhold_turns (h : (s.view b).Sound) (c : Cause) : s.Turns b (act (.unhold b c) s) := by
  obtain ⟨sv, hd, hs, hw⟩ := id h
  have hclauses := hw.clauses hs.serves
  cases hc : (s.lane b).holds.has c with
  | false =>
    rw [act_unhold_absent hc]
    exact turns_self (.rests h)
  | true =>
    have hst := hclauses.holding (ne_none_of_has hc)
    by_cases hn : (s.lane b).holds.put c false = Holds.none
    · rcases hst with hst | hst
      · rw [act_unhold_idle (m := (s.lane b).unheld) hc hn rfl hst]
        exact turns_setLane (view_self s b) (.judges ⟨sv, hd, ⟨hs.holdings, hs.serves, hs.kept⟩,
          hw.with_holds (.inl hst) fun hheld => absurd (hst.symm.trans hheld) (by simp)⟩)
      · rw [act_unhold_held (m := (s.lane b).unheld) hc hn rfl hst]
        obtain ⟨rfl, k, w, r, rfl, hr, hreturns⟩ := hw.held hst
        cases w with
        | wash => exact resume_wash_turns hs hr hreturns
        | fill => exact resume_fill_turns hs hr hreturns
    · rw [act_unhold_leaves hc hn]
      exact turns_setLane (view_self s b) (.rests ⟨sv, hd, ⟨hs.holdings, hs.serves, hs.kept⟩, hw.with_holds hst fun _ => hn⟩)

/-! ## Tasks that find every bay sound -/

/-- A task that an event can begin with where every bay is sound. -/
def Task.opens : Task → Bool
  | .judge _ | .back _ | .idle _ | .drain | .hold _ _ | .unhold _ _ | .modeChange _ _ _ => true
  | _ => false

theorem settle_open (hs : s.BaysSound) {x : Task} (hx : x.opens = true) : (s.settle [x]).BaysSound := by
  cases x with
  | judge u => exact settle_free hs (by simp [Task.bay?, Task.waits])
  | back u => exact settle_free hs (by simp [Task.bay?, Task.waits])
  | idle b => exact settle_free hs (by simp [Task.bay?, Task.waits])
  | drain => exact settle_drain hs
  | hold b c =>
    rw [settle_cons, List.append_nil]
    exact settle_turns hs (hold_turns (hs b) c)
  | unhold b c =>
    rw [settle_cons, List.append_nil]
    exact settle_turns hs (unhold_turns (hs b) c)
  | modeChange l e c =>
    rw [settle_cons]
    show ((s.raiseYard (.modeChange l e c)).settle []).BaysSound
    rw [settle_nil]
    exact hs
  | _ => exact Bool.noConfusion hx

theorem settle_opens (hs : s.BaysSound) (hts : ∀ x ∈ ts, x.opens = true) : (s.settle ts).BaysSound := by
  induction ts generalizing s with
  | nil => rwa [settle_nil]
  | cons x ts ih =>
    obtain ⟨hx, hrest⟩ := List.forall_mem_cons.mp hts
    rw [show x :: ts = [x] ++ ts from rfl, settle_append]
    exact ih (settle_open hs hx) hrest

end

end Sys2Proof.Machine
end

section
/-! PROOFS. What an event keeps of the yard: its bays' soundness, and the sleep of a DORMANT yard (R175). -/

namespace Sys2Proof.Machine

/-- A DORMANT yard: no visit, every lane IDLE with the reset orders, nothing granted, claimed or withheld. -/
structure State.Asleep (s : State) : Prop where
  mode : s.mode = .dormant
  visits : ∀ b, s.visit b = none
  lanes : ∀ b, (s.lane b).st = .idle ∧ (s.lane b).orders = Orders.reset
  utils : ∀ u, (s.util u).grants = [] ∧ (s.util u).claims = []
  withheld : s.certs.withheld = []

/-- A bay with no visit has an IDLE lane. -/
theorem View.Sound.idle_of_noVisit {V : View} (h : V.Sound) (hv : V.books.visit = none) : V.post.st = .idle := by
  obtain ⟨sv, hd, hs, hw⟩ := h
  rw [works_idle_iff hw]
  cases hsv : sv with
  | none => rfl
  | some x =>
    obtain ⟨r, hr⟩ := hs.kept.serves_record (k := x.1) (w := x.2) hsv
    obtain ⟨v, hv', -⟩ := (hs.kept.records x.1).mp (hr ▸ rfl)
    rw [hv] at hv'
    cases hv'

/-- A bay with no visit has no record. -/
theorem Books.Kept.record_none {B : Books} {sv : Option (Nat × Service)} (h : B.Kept sv) (hv : B.visit = none) (k : Nat) :
    B.record k = none := by
  refine Option.not_isSome_iff_eq_none.mp fun hr => ?_
  obtain ⟨v, hv', -⟩ := (h.records k).mp hr
  rw [hv] at hv'
  cases hv'

/-- A DORMANT yard of sound bays with no visit and every lance parked is asleep. -/
theorem State.BaysSound.asleep {s : State} (h : s.BaysSound) (hm : s.mode = .dormant) (hv : ∀ b, s.visit b = none)
    (ho : ∀ b, (s.lane b).orders = Orders.reset) : s.Asleep where
  mode := hm
  visits := hv
  lanes b := ⟨(h b).idle_of_noVisit (hv b), ho b⟩
  utils u := by
    have hempty : ∀ c ∈ (s.util u).grants ++ (s.util u).claims, False := fun c hc => by
      obtain ⟨hh, -⟩ := (h c.lane).idle ((h c.lane).idle_of_noVisit (hv c.lane))
      exact (countsOf_eq_zero_iff (s.util u) c.lane).mp (congrFun hh u) c hc rfl
    exact List.append_eq_nil_iff.mp (List.eq_nil_iff_forall_not_mem.mpr hempty)
  withheld := List.eq_nil_iff_forall_not_mem.mpr fun w hw => by
    obtain ⟨sv, hd, hserves, -⟩ := h w.bay
    obtain ⟨r, hr, -⟩ := hserves.kept.withheld_awaits ((mem_withheld_iff s w.bay w.index).mpr ⟨w, hw, rfl, rfl⟩)
    rw [hserves.kept.record_none (hv w.bay)] at hr
    cases hr

theorem State.YardSound.asleep {s : State} (h : s.YardSound) (hm : s.mode = .dormant) : s.Asleep :=
  State.BaysSound.asleep h.bay hm (fun b => (h.dormant hm b).1) fun b => (h.dormant hm b).2.2

/-- What an event keeps while it leaves the mode. -/
structure State.Keeps (s t : State) : Prop where
  bays : s.BaysSound → t.BaysSound
  mode : t.mode = s.mode
  sleep : s.Asleep → t.Asleep

namespace State.Keeps

variable {s t u : State}

theorem refl (s : State) : s.Keeps s := ⟨id, rfl, id⟩

theorem trans (h : s.Keeps t) (k : t.Keeps u) : s.Keeps u := ⟨k.bays ∘ h.bays, k.mode.trans h.mode, k.sleep ∘ h.sleep⟩

theorem sound (h : s.Keeps t) (hs : s.YardSound) : t.YardSound := by
  refine (yardSound_iff t).mpr ⟨h.bays hs.bay, fun hm b => ?_⟩
  have ha := h.sleep (hs.asleep (h.mode.symm.trans hm))
  exact ⟨ha.visits b, ha.lanes b⟩

/-- An event that leaves the views, the mode and the lanes' orders. -/
theorem of_view (hv : t.view = s.view) (hm : t.mode = s.mode) (ho : ∀ b, (t.lane b).orders = (s.lane b).orders)
    (hu : ∀ u, (t.util u).grants = (s.util u).grants ∧ (t.util u).claims = (s.util u).claims)
    (hw : t.certs.withheld = s.certs.withheld) : s.Keeps t where
  bays h b := hv ▸ h b
  mode := hm
  sleep h := {
    mode := hm.trans h.mode
    visits := fun b => (congrArg (fun f => (f b).books.visit) hv).trans (h.visits b)
    lanes := fun b => ⟨(congrArg (fun f => (f b).post.st) hv).trans (h.lanes b).1, (ho b).trans (h.lanes b).2⟩
    utils := fun u => ⟨(hu u).1.trans (h.utils u).1, (hu u).2.trans (h.utils u).2⟩
    withheld := hw.trans h.withheld }

/-- An event taken in RUN or STOPPED alone. -/
theorem awake (hm : s.mode ≠ .dormant) (hmode : t.mode = s.mode) (h : s.BaysSound → t.BaysSound) : s.Keeps t :=
  ⟨h, hmode, fun ha => absurd ha.mode hm⟩

end State.Keeps

/-! ## A yard asleep -/

section
variable {s : State} {b : Bay}

/-- An IDLE lane's record written again as an IDLE lane's leaves the reset orders. -/
theorem State.Asleep.setLane (h : s.Asleep) {m : Lane} (hm : m.st = .idle) (ho : m.orders = (s.lane b).orders) :
    (s.setLane b m).Asleep where
  mode := h.mode
  visits := h.visits
  lanes d := by
    by_cases hd : d = b
    · subst hd
      rw [lane_setLane, ordersOf_idle _ hm, ho, (h.lanes d).2]
      exact ⟨hm, rfl⟩
    · rw [lane_setLane_other s m (Ne.symm hd)]
      exact h.lanes d
  utils := h.utils
  withheld := h.withheld

theorem State.Asleep.setUtil (h : s.Asleep) {u : UtilId} {x : Util} (hx : x.grants = [] ∧ x.claims = []) : (s.setUtil u x).Asleep where
  mode := h.mode
  visits := h.visits
  lanes := h.lanes
  utils v := by
    by_cases hv : v = u
    · subst hv
      rw [util_setUtil]
      exact hx
    · rw [util_setUtil_other s x (Ne.symm hv)]
      exact h.utils v
  withheld := h.withheld

theorem State.Asleep.raiseYard (h : s.Asleep) (e : Event) : (s.raiseYard e).Asleep := ⟨h.mode, h.visits, h.lanes, h.utils, h.withheld⟩

/-- In a yard asleep the tasks that find every bay sound change no lane's state, and lead on to such tasks alone. -/
theorem State.Asleep.act (h : s.Asleep) {x : Task} (hx : x.opens = true) :
    (act x s).1.Asleep ∧ ∀ y ∈ (Machine.act x s).2, y.opens = true := by
  have hidle : ∀ b, Machine.act (.idle b) s = (s, []) := fun b => act_idle_waits (.inr (.inl (by simp [h.mode])))
  cases x with
  | judge u =>
    rw [act_judge_waits (.inl (h.utils u).2)]
    exact ⟨h, nofun⟩
  | back u =>
    exact ⟨(h.setUtil (x := { s.util u with returning := none }) (h.utils u)).raiseYard _, nofun⟩
  | idle b =>
    rw [hidle]
    exact ⟨h, nofun⟩
  | drain =>
    rw [act_drain_stops (.inl h.withheld)]
    exact ⟨h, nofun⟩
  | hold b c =>
    cases hc : (s.lane b).holds.has c with
    | true =>
      rw [act_hold_present hc]
      exact ⟨h, nofun⟩
    | false =>
      rw [act_hold_adds hc (.inl (h.lanes b).1)]
      exact ⟨h.setLane (h.lanes b).1 rfl, nofun⟩
  | unhold b c =>
    cases hc : (s.lane b).holds.has c with
    | false =>
      rw [act_unhold_absent hc]
      exact ⟨h, nofun⟩
    | true =>
      by_cases hn : (s.lane b).holds.put c false = Holds.none
      · rw [act_unhold_idle (m := (s.lane b).unheld) hc hn rfl (h.lanes b).1]
        exact ⟨h.setLane (h.lanes b).1 rfl, List.forall_mem_singleton.mpr rfl⟩
      · rw [act_unhold_leaves hc hn]
        exact ⟨h.setLane (h.lanes b).1 rfl, nofun⟩
  | modeChange l e c => exact ⟨h.raiseYard _, nofun⟩
  | _ => exact Bool.noConfusion hx

theorem State.Asleep.settle (h : s.Asleep) {ts : List Task} (hts : ∀ x ∈ ts, x.opens = true) : (s.settle ts).Asleep :=
  settle_induction (P := fun s ts => s.Asleep ∧ ∀ x ∈ ts, x.opens = true) (Q := State.Asleep)
    (fun _ _ _ ⟨h, hts⟩ => by
      obtain ⟨hx, hrest⟩ := List.forall_mem_cons.mp hts
      obtain ⟨ha, hy⟩ := h.act hx
      exact ⟨ha, List.forall_mem_append.mpr ⟨hy, hrest⟩⟩)
    (fun _ h => h.1) ts s ⟨h, hts⟩

/-- Tasks that find every bay sound, settled. -/
theorem State.Keeps.settle {s t : State} (h : s.Keeps t) {ts : List Task} (hts : ∀ x ∈ ts, x.opens = true) : s.Keeps (t.settle ts) :=
  h.trans ⟨fun hs => settle_opens hs hts, (settle_frame ts t).mode, fun ha => ha.settle hts⟩

end

end Sys2Proof.Machine
end

section
/-! PROOFS. Bay reports and signals keep the yard sound (R66 to R80, R91, R100 to R107, R135 to R137). -/

namespace Sys2Proof.Machine

/-! ## Events at one lane -/

/-- A lane record that says the same of the lane's work. -/
structure Lane.Notes (l m : Lane) : Prop where
  st : m.st = l.st
  current : m.current = l.current
  service : m.service = l.service
  ret : m.ret = l.ret
  holds : m.holds = l.holds
  index : m.index = l.index
  queue : m.queue = l.queue
  orders : m.orders = l.orders

section
variable {s t : State} {b : Bay} {m : Lane} {k : Nat} {f : Comp → Comp}

theorem view_setLane_notes (h : (s.lane b).Notes m) : (s.setLane b m).view = s.view := by
  rw [view_setLane, View.withLane, h.st, h.current, h.service, h.ret, h.holds, h.index, h.queue]
  exact Function.update_eq_self b s.view

theorem view_amendLane_notes (h : (s.lane b).Notes m) : (s.amendLane b m).view = s.view := by
  rw [view_amendLane, View.withLane, h.st, h.current, h.service, h.ret, h.holds, h.index, h.queue]
  exact Function.update_eq_self b s.view

theorem bays_of_view (h : s.BaysSound) (hv : t.view = s.view) : t.BaysSound := fun d => hv ▸ h d

namespace State.Keeps

theorem notes (h : s.Keeps t) (hm : (t.lane b).Notes m) : s.Keeps (t.setLane b m) :=
  h.trans ⟨fun hs => bays_of_view hs (view_setLane_notes hm), rfl, fun ha => ha.setLane (hm.st.trans (ha.lanes b).1) hm.orders⟩

/-- A record changed where it stands. -/
theorem modRecord (h : s.Keeps t) (b : Bay) (k : Nat) (hf : ∀ r, (f r).bay = r.bay ∧ (f r).index = r.index)
    (hp : ∀ r, t.record? b k = some r → r.Formed → (f r).place = r.place ∧ (f r).Formed) : s.Keeps (t.modRecord b k f) := by
  refine h.trans ⟨fun hs d => ?_, rfl, fun ha => ⟨ha.mode, ha.visits, ha.lanes, ha.utils, ha.withheld⟩⟩
  by_cases hd : d = b
  · subst hd
    cases hr : t.record? d k with
    | none =>
      rw [view_modRecord _ _ _ hf, Function.update_self, View.withRecord,
        show (t.view d).books.record k = none from hr, Option.map_none, ← show (t.view d).books.record k = none from hr,
        Function.update_eq_self]
      exact hs d
    | some r =>
      obtain ⟨sv, hd', hserves, hw⟩ := hs d
      obtain ⟨hplace, hform⟩ := hp r hr (hserves.kept.formed k r hr)
      rw [view_modRecord_some hf (view_self t d) hr, Function.update_self]
      exact ⟨sv, hd', ⟨hserves.holdings, hserves.serves, hserves.kept.touch hr hplace hform⟩, hw⟩
  · rw [view_modRecord _ _ _ hf, Function.update_of_ne hd]
    exact hs d

theorem modServed (h : s.Keeps t) (b : Bay) (hf : ∀ r, (f r).bay = r.bay ∧ (f r).index = r.index)
    (hp : ∀ r : Comp, r.Formed → (f r).place = r.place ∧ (f r).Formed) : s.Keeps (t.modServed b f) := by
  unfold State.modServed
  split
  · exact h.modRecord b _ hf fun r _ => hp r
  · exact h

end State.Keeps

/-- An event at an awake lane that reached its bay alone, settled. -/
theorem keeps_turns {x : State × List Task} (hst : (s.lane b).st ≠ .idle) (hm : x.1.mode = s.mode) (h : s.BaysSound → s.Turns b x) :
    s.Keeps (x.1.settle x.2) :=
  ⟨fun hs => settle_turns hs (h hs), (settle_frame _ _).mode.trans hm, fun ha => absurd (ha.lanes b).1 hst⟩

/-! ## What a sound bay offers -/

/-- A lane with work serves its compartment. -/
theorem View.Sound.serves {V : View} (h : V.Sound) {w : Service} (hw : V.post.service = some w) :
    ∃ k h, V.Serves (some (k, w)) h ∧ V.post.st ≠ .idle ∧ V.post.Works (some (k, w)) h := by
  obtain ⟨sv, hd, hs, hworks⟩ := h
  have hsv := hs.serves.2
  rw [hw] at hsv
  cases hc : sv with
  | none => rw [hc] at hsv; cases hsv
  | some x =>
    obtain ⟨k, w'⟩ := x
    rw [hc] at hsv hs hworks
    obtain rfl := Option.some.inj hsv
    exact ⟨k, hd, hs, fun hi => absurd ((works_idle_iff hworks).mp hi) (Option.some_ne_none _), hworks⟩

theorem abort_owes {V : View} (h : V.Sound) (hw : V.post.service = some .wash) (b : Bay) (why : Reason) : (Task.abort b why).Owes V := by
  obtain ⟨k, hd, hs, hst, -⟩ := h.serves hw
  exact ⟨k, hd, hs, fun hi => absurd hi hst⟩

/-- A lane that serves a fill executes no step. -/
theorem endFill_owes {V : View} (h : V.Sound) (hw : V.post.service = some .fill) (b : Bay) (e : FillEnd) : (Task.endFill b e).Owes V := by
  obtain ⟨k, hd, hs, hst, hworks⟩ := h.serves hw
  have hc := hworks.clauses hs.serves
  have hstage := hc.fillStage hw
  refine ⟨k, hd, hs, ⟨hc.unpinned fun hp => by rw [hw] at hp; exact Service.noConfusion (Option.some.inj hp.1), hc.unscanned (fun hsc => ?_)
    fun hsc => ?_⟩, fun hi => absurd hi hst⟩
  · cases hr : V.post.ret with
    | none => simp [hr, hsc] at hstage
    | some r => exact absurd (hsc.symm.trans (hc.held.mpr (hr ▸ rfl))) (by simp)
  · simp [hsc] at hstage

/-- A lane RUNNING, DRAINING, STARVED or SCANNING serves a WASH under no hold. -/
theorem View.Sound.washing {V : View} (h : V.Sound)
    (hst : V.post.st = .running ∨ V.post.st = .draining ∨ V.post.st = .starved ∨ V.post.st = .scanning) :
    ∃ k h, V.Serves (some (k, .wash)) h ∧ V.post.Free ∧ (V.post.st ≠ .scanning → V.post.scan = none) := by
  obtain ⟨sv, hd, hs, hw⟩ := h
  unfold Post.Works at hw
  rcases hst with hst | hst | hst | hst
  · rw [hst] at hw
    obtain ⟨hf, hp, -, k, rfl⟩ := hw
    exact ⟨k, hd, hs, hf, fun _ => hp.2⟩
  · rw [hst] at hw
    obtain ⟨hf, hp, -, k, rfl⟩ := hw
    exact ⟨k, hd, hs, hf, fun _ => hp.2⟩
  · rw [hst] at hw
    obtain ⟨hf, hp, -, k, rfl⟩ := hw
    exact ⟨k, hd, hs, hf, fun _ => hp.2⟩
  · rw [hst] at hw
    obtain ⟨hf, -, -, k, rfl⟩ := hw
    exact ⟨k, hd, hs, hf, fun hn => absurd hst hn⟩

theorem View.Sound.filling {V : View} (h : V.Sound) (hst : V.post.st = .filling) : V.post.service = some .fill := by
  obtain ⟨sv, hd, hs, hw⟩ := h
  unfold Post.Works at hw
  rw [hst] at hw
  obtain ⟨-, -, k, u, rfl, -⟩ := hw
  exact hs.serves.2

theorem View.Sound.wash {V : View} (h : V.Sound)
    (hst : V.post.st = .running ∨ V.post.st = .draining ∨ V.post.st = .starved ∨ V.post.st = .scanning) :
    V.post.service = some .wash := by
  obtain ⟨k, hd, hs, -⟩ := h.washing hst
  exact hs.serves.2

theorem View.Sound.seating {V : View} (h : V.Sound) (hst : V.post.st = .seating) :
    ∃ k w, V.Serves (some (k, w)) .nothing ∧ V.post.Free ∧ V.post.Bare := by
  obtain ⟨sv, hd, hs, hw⟩ := h
  unfold Post.Works at hw
  rw [hst] at hw
  obtain ⟨hf, hb, rfl, k, w, rfl⟩ := hw
  exact ⟨k, w, hs, hf, hb⟩

/-- A working lane's program aborted. -/
theorem abort_keeps {why : Reason} (hst : (s.lane b).st ≠ .idle) (hw : s.BaysSound → (s.lane b).service = some .wash) :
    s.Keeps (s.settle [.abort b why]) :=
  keeps_turns (x := (s, [.abort b why])) hst rfl fun hs => turns_self (.next rfl (abort_owes (hs b) (hw hs) b why))

theorem endFill_keeps {e : FillEnd} (hst : (s.lane b).st ≠ .idle) (hw : s.BaysSound → (s.lane b).service = some .fill) :
    s.Keeps (s.settle [.endFill b e]) :=
  keeps_turns (x := (s, [.endFill b e])) hst rfl fun hs => turns_self (.next rfl (endFill_owes (hs b) (hw hs) b e))

end

end Sys2Proof.Machine
end

section
/-! PROOFS. Each report and each signal of a bay keeps the yard sound (R66 to R80, R91, R100 to R107, R135 to R137). -/

namespace Sys2Proof.Machine

section
variable {s t : State} {b : Bay}

/-! ## Reports -/

theorem addLitres_keeps (x : Comp) (u : WashUtil) (n : Nat) (h : x.Formed) :
    (x.addLitres u n).place = x.place ∧ (x.addLitres u n).Formed := by
  cases u <;> exact ⟨rfl, h.achieved, h.unachieved, h.program, h.certificate, h.order⟩

theorem addLitres_names (x : Comp) (u : WashUtil) (n : Nat) : (x.addLitres u n).bay = x.bay ∧ (x.addLitres u n).index = x.index := by
  cases u <;> exact ⟨rfl, rfl⟩

theorem addPeriod_keeps (x : Comp) (u : WashUtil) (h : x.Formed) : (x.addPeriod u).place = x.place ∧ (x.addPeriod u).Formed := by
  cases u <;> exact ⟨rfl, h.achieved, h.unachieved, h.program, h.certificate, h.order⟩

theorem addPeriod_names (x : Comp) (u : WashUtil) : (x.addPeriod u).bay = x.bay ∧ (x.addPeriod u).index = x.index := by
  cases u <;> exact ⟨rfl, rfl⟩

theorem notes_modServed {f : Comp → Comp} {m : Lane} (h : (s.lane b).Notes m) : ((s.modServed b f).lane b).Notes m := by
  rwa [lane_modServed]

theorem countRunning_keeps (s : State) (b : Bay) (r : Report) :
    s.Keeps (s.countRunning b { s.lane b with temp := some r.temp } r) := by
  have h0 := State.Keeps.refl s
  unfold State.countRunning
  dsimp only
  split
  · split
    · exact h0.notes ⟨rfl, rfl, rfl, rfl, rfl, rfl, rfl, rfl⟩
    · exact (h0.modServed b (fun x => addLitres_names x _ _) fun x => addLitres_keeps x _ _).notes
        (notes_modServed ⟨rfl, rfl, rfl, rfl, rfl, rfl, rfl, rfl⟩)
  · split
    · exact h0.notes ⟨rfl, rfl, rfl, rfl, rfl, rfl, rfl, rfl⟩
    · exact (h0.modServed b (fun x => addPeriod_names x _) fun x => addPeriod_keeps x _).notes
        (notes_modServed ⟨rfl, rfl, rfl, rfl, rfl, rfl, rfl, rfl⟩)
  · exact h0.notes ⟨rfl, rfl, rfl, rfl, rfl, rfl, rfl, rfl⟩
  · exact h0.notes ⟨rfl, rfl, rfl, rfl, rfl, rfl, rfl, rfl⟩
  · exact h0.notes ⟨rfl, rfl, rfl, rfl, rfl, rfl, rfl, rfl⟩

/-- A report is counted without a change of the lane's work. -/
theorem countReport_keeps (s : State) (b : Bay) (r : Report) : s.Keeps (s.countReport b r) := by
  have h0 := State.Keeps.refl s
  unfold State.countReport
  dsimp only
  split
  case h_5 =>
    exact (h0.modServed (f := fun x => { x with filled := satAdd Config.max16 x.filled r.fill }) b (fun _ => ⟨rfl, rfl⟩) fun x h =>
      ⟨rfl, h.achieved, h.unachieved, h.program, h.certificate, h.order⟩).notes
      (notes_modServed ⟨rfl, rfl, rfl, rfl, rfl, rfl, rfl, rfl⟩)
  case h_6 => exact countRunning_keeps s b r
  all_goals exact h0.notes ⟨rfl, rfl, rfl, rfl, rfl, rfl, rfl, rfl⟩

/-- The lane states in which a report can bring an end about. -/
def ReportEnd.arises : ReportEnd → LaneState → Prop
  | .goesOn, _ => True
  | .seatTimeout, st => st = .seating
  | .noFlow, st | .coldSupply, st | .stepEnd, st => st = .running
  | .drainStuck, st => st = .draining
  | .underrun, st => st = .starved
  | .scanStall, st => st = .scanning
  | .fillStall, st | .fillComplete, st => st = .filling

theorem reportEnd_arises (s : State) (b : Bay) : (s.reportEnd b).arises (s.lane b).st := by
  unfold State.reportEnd
  dsimp only
  cases hst : (s.lane b).st with
  | idle | waitResource | held | suspended => trivial
  | seating | draining | starved | scanning =>
    dsimp only
    split
    · rfl
    · trivial
  | filling =>
    dsimp only
    split
    · trivial
    · split
      · trivial
      · split
        · rfl
        · split
          · rfl
          · trivial
  | running =>
    dsimp only
    split
    · split
      · rfl
      · split
        · rfl
        · split
          · rfl
          · trivial
    · split
      · rfl
      · split
        · rfl
        · trivial
    · split
      · rfl
      · trivial
    · trivial
    · trivial

theorem dropSeating_keeps (hst : (s.lane b).st = .seating) : s.Keeps ((s.dropSeating b).settle [.idle b]) := by
  refine keeps_turns (b := b) (x := (s.dropSeating b, [.idle b])) (by simp [hst]) ?_ fun hs => ?_
  · simp [State.dropSeating]
  · obtain ⟨k, w, hserves, hfree, hbare⟩ := (hs b).seating hst
    have hcur : (s.lane b).current = some k := hserves.serves.1
    have hservice : (s.lane b).service = some w := hserves.serves.2
    have hleaves : ∃ r, s.record? b k = some r ∧ ({ (s.view b).books with
        record := Function.update (s.view b).books.record k (some (r.dropped (some w))) } : Books).Kept none := by
      cases w with
      | wash =>
        obtain ⟨r, hr, hrst⟩ := hserves.kept.serves_washing rfl
        have hzero := (hserves.kept.formed k r hr).unachieved (by simp [hrst])
        refine ⟨r, hr, hserves.kept.leaves hr ?_ ?_⟩
        · unfold Comp.dropped Comp.place
          cases r.dirty <;> rfl
        · unfold Comp.dropped
          cases r.dirty <;> exact ⟨hzero.le, fun _ => hzero, by simp, by simp, by simp⟩
      | fill =>
        obtain ⟨r, hr, hrst⟩ := hserves.kept.serves_filling rfl
        have hf := hserves.kept.formed k r hr
        exact ⟨r, hr, hserves.kept.leaves hr rfl ⟨hf.achieved, by simp [Comp.dropped], by simp [Comp.dropped],
          fun _ => hf.certificate (by simp [hrst]), by simp [Comp.dropped]⟩⟩
    obtain ⟨r, hr, hkept⟩ := hleaves
    have hnames : ∀ r : Comp, (r.dropped (some w)).bay = r.bay ∧ (r.dropped (some w)).index = r.index := fun r => by
      unfold Comp.dropped
      split <;> exact ⟨rfl, rfl⟩
    unfold State.dropSeating
    dsimp only
    rw [modServed_eq hcur, hservice]
    exact turns_setLane (view_modRecord_some (f := fun r => r.dropped (some w)) hnames (view_self s b) hr)
      (.judges (sound_toIdle hserves.holdings hkept hbare))

theorem endReport_keeps {e : ReportEnd} (he : s.reportEnd b = e) : s.Keeps (s.endReport b e) := by
  have ha : e.arises (s.lane b).st := he ▸ reportEnd_arises s b
  cases e with
  | goesOn => exact .refl s
  | seatTimeout => exact dropSeating_keeps ha
  | noFlow => exact abort_keeps (by simp [show (s.lane b).st = .running from ha]) fun hs => (hs b).wash (.inl ha)
  | coldSupply => exact abort_keeps (by simp [show (s.lane b).st = .running from ha]) fun hs => (hs b).wash (.inl ha)
  | drainStuck => exact abort_keeps (by simp [show (s.lane b).st = .draining from ha]) fun hs => (hs b).wash (.inr (.inl ha))
  | underrun => exact abort_keeps (by simp [show (s.lane b).st = .starved from ha]) fun hs => (hs b).wash (.inr (.inr (.inl ha)))
  | scanStall => exact abort_keeps (by simp [show (s.lane b).st = .scanning from ha]) fun hs => (hs b).wash (.inr (.inr (.inr ha)))
  | fillStall => exact endFill_keeps (by simp [show (s.lane b).st = .filling from ha]) fun hs => (hs b).filling ha
  | fillComplete => exact endFill_keeps (by simp [show (s.lane b).st = .filling from ha]) fun hs => (hs b).filling ha
  | stepEnd =>
    have hst : (s.lane b).st = .running := ha
    refine keeps_turns (b := b) (x := (s, [.stepEnd b])) (by simp [hst]) rfl fun hs => turns_self (.next rfl ?_)
    obtain ⟨k, h, hserves, hfree, hscan⟩ := (hs b).washing (.inl hst)
    have hpost : (s.view b).post.st = .running := hst
    exact ⟨k, h, hserves, hfree, hscan (by simp [hpost]), by simp [hpost]⟩

theorem takeReport_keeps (s : State) (b : Bay) (r : Report) : s.Keeps (s.takeReport b r) :=
  (countReport_keeps s b r).trans (endReport_keeps rfl)

theorem reportRow_keeps (s : State) (b : Bay) (flow fill temp : Byte) (e : ReportEnd) : s.Keeps (s.reportRow b flow fill temp e) := by
  unfold State.reportRow State.takeReportFor
  split
  · exact .refl s
  · split
    · exact takeReport_keeps s b _
    · exact .refl s

/-! ## Signals -/

theorem takeSeated_keeps (s : State) (b : Bay) (k : Nat) : s.Keeps (s.takeSeated b k) := by
  have h1 : s.Keeps (s.setLane b { s.lane b with seated := some k }) := (State.Keeps.refl s).notes ⟨rfl, rfl, rfl, rfl, rfl, rfl, rfl, rfl⟩
  have hl : (s.setLane b { s.lane b with seated := some k }).lane b =
      { s.lane b with seated := some k, orders := ordersOf (s.entry (s.lane b).index) { s.lane b with seated := some k } } :=
    lane_setLane ..
  have hst : ((s.setLane b { s.lane b with seated := some k }).lane b).st = (s.lane b).st := by rw [hl]
  unfold State.takeSeated
  dsimp only
  split
  next h =>
    split
    next hc =>
      refine h1.trans (keeps_turns (b := b) (x := (_, [_])) (by simp [h]) rfl fun hs => turns_self ?_)
      obtain ⟨j, w, hserves, hfree, hbare⟩ := (hs b).seating (hst.trans h)
      have hservice : (s.lane b).service = some w := by
        have := hserves.serves.2
        rwa [show (State.view _ b).post.service = (State.lane _ b).service from rfl, hl] at this
      cases w with
      | wash => rw [if_neg (by simp [hservice])]; exact .next rfl ⟨j, hserves, hfree, hbare⟩
      | fill => rw [if_pos hservice]; exact .next rfl ⟨j, hserves, hfree, hbare⟩
    next => exact h1
  next h =>
    split
    · exact h1
    · exact h1.trans (abort_keeps (by simp [h]) fun hs => (hs b).wash (.inl (hst.trans h)))
  next h =>
    split
    · exact h1
    · exact h1.trans (abort_keeps (by simp [h]) fun hs => (hs b).wash (.inr (.inl (hst.trans h))))
  next h =>
    split
    · exact h1
    · exact h1.trans (abort_keeps (by simp [h]) fun hs => (hs b).wash (.inr (.inr (.inr (hst.trans h)))))
  next h =>
    split
    · exact h1
    · exact h1.trans (endFill_keeps (by simp [h]) fun hs => (hs b).filling (hst.trans h))
  all_goals exact h1

theorem takeLifted_keeps (s : State) (b : Bay) : s.Keeps (s.takeLifted b) := by
  have h1 : s.Keeps (s.setLane b { s.lane b with seated := none }) := (State.Keeps.refl s).notes ⟨rfl, rfl, rfl, rfl, rfl, rfl, rfl, rfl⟩
  have hst : ((s.setLane b { s.lane b with seated := none }).lane b).st = (s.lane b).st := by rw [lane_setLane]
  unfold State.takeLifted
  dsimp only
  split
  next h => exact h1.trans (abort_keeps (by simp [h]) fun hs => (hs b).wash (.inl (hst.trans h)))
  next h => exact h1.trans (abort_keeps (by simp [h]) fun hs => (hs b).wash (.inr (.inl (hst.trans h))))
  next h => exact h1.trans (abort_keeps (by simp [h]) fun hs => (hs b).wash (.inr (.inr (.inr (hst.trans h)))))
  next h => exact h1.trans (endFill_keeps (by simp [h]) fun hs => (hs b).filling (hst.trans h))
  all_goals exact h1

theorem takeDrainClear_keeps (s : State) (b : Bay) : s.Keeps (s.takeDrainClear b) := by
  unfold State.takeDrainClear
  split
  next h =>
    refine keeps_turns (b := b) (x := (s, [.proceed b])) (by simp [h]) rfl fun hs => turns_self (.next rfl ?_)
    obtain ⟨sv, hd, hserves, hw⟩ := hs b
    have hpost : (s.view b).post.st = .draining := h
    unfold Post.Works at hw
    rw [hpost] at hw
    obtain ⟨hfree, hbare, rfl, k, rfl⟩ := hw
    exact ⟨k, hserves, hfree, hbare, by simp [hpost]⟩
  next => exact .refl s

theorem takeHighLevel_keeps (s : State) (b : Bay) : s.Keeps (s.takeHighLevel b) := by
  unfold State.takeHighLevel
  split
  next h =>
    split
    · exact abort_keeps (by simp [h]) fun hs => (hs b).wash (.inl h)
    · exact .refl s
  next h => exact endFill_keeps (by simp [h]) fun hs => (hs b).filling h
  all_goals exact .refl s

end

end Sys2Proof.Machine
end

section
/-! PROOFS. A probe's reading keeps the yard sound (R98, R100, R104 to R107), and so do bay messages and what goes on at the ports and the
links alone. -/

namespace Sys2Proof.Machine

section
variable {s t : State} {b : Bay}

/-! ## Readings -/

theorem withReading_keeps (s : State) (b : Bay) (z : Zone) (g : Grade) : s.Keeps (s.withReading b z g) := by
  have h1 : s.Keeps (s.setResidue b ((s.residue b).set (zoneIx z) (some g))) :=
    .of_view rfl rfl (fun _ => rfl) (fun _ => ⟨rfl, rfl⟩) rfl
  exact h1.notes ⟨rfl, rfl, rfl, rfl, rfl, rfl, rfl, rfl⟩

theorem View.Sound.scanning {V : View} (h : V.Sound) (hst : V.post.st = .scanning) :
    ∃ k, V.Serves (some (k, .wash)) .nothing ∧ V.post.Free ∧ V.post.Scans := by
  obtain ⟨sv, hd, hs, hw⟩ := h
  unfold Post.Works at hw
  rw [hst] at hw
  obtain ⟨hf, hscan, rfl, k, rfl⟩ := hw
  exact ⟨k, hs, hf, hscan⟩

/-- The pointer moved on to the next zone. -/
theorem setScan_keeps {y : Scan} {z : Zone} (hst : (s.lane b).st = .scanning) (hy : s.scan b = some y)
    (hz : (scanZones y.window y.order)[y.written + 1]? = some z) :
    s.Keeps (s.setScan b (some { y with pointer := z, written := y.written + 1 })) := by
  refine ⟨fun hs d => ?_, rfl, fun ha => absurd ((ha.lanes b).1.symm.trans hst) (by simp)⟩
  by_cases hd : d = b
  · subst hd
    obtain ⟨k, hserves, hfree, hpin, x, stall, e, n, hx, hptr, hstep⟩ := (hs d).scanning hst
    obtain rfl : x = y := Option.some.inj (hx.symm.trans hy)
    rw [view_setScan, Function.update_self]
    refine ⟨some (k, .wash), .nothing, ⟨hserves.holdings, hserves.serves, hserves.kept⟩, ?_⟩
    unfold Post.Works
    rw [show ((s.view d).withScan _).post.st = .scanning from hst]
    exact ⟨hfree, ⟨hpin, _, stall, e, n, rfl, hz, hstep⟩, rfl, k, rfl⟩
  · rw [view_setScan, Function.update_of_ne hd]
    exact hs d

/-- An outcome acted on, the step over and its verdict recorded (R105 to R107). -/
theorem actOnVerdict_bays {u : State} {k : Nat} (hs : s.BaysSound) (hv : u.view = Function.update s.view b (u.view b))
    (hserves : (u.view b).Serves (some (k, .wash)) .nothing) (hfree : (u.view b).post.Free) (hbare : (u.view b).post.Bare)
    (hst : (u.view b).post.st ≠ .idle) (j : Judgement) : (u.actOnVerdict b j).BaysSound := by
  obtain ⟨r, hr, hwash⟩ := hserves.kept.serves_washing rfl
  have hprogram := (hserves.kept.formed k r hr).program (by simp [hwash])
  have hcur : (u.lane b).current = some k := hserves.serves.1
  cases j with
  | pass cap =>
    rw [actOnVerdict_pass]
    exact settle_turns hs (turns_setLane hv (.next rfl ⟨k, ⟨hserves.holdings, hserves.serves, hserves.kept⟩, hfree, hbare, hst⟩))
  | rewash =>
    rw [actOnVerdict_rewash hcur]
    exact settle_turns hs (turns_update (view_modRecord_some (f := fun r => { r with st := .dirty, dirty := some .verdict, achieved := 0 })
      (fun _ => ⟨rfl, rfl⟩) hv hr) (.next rfl ⟨hserves.holdings,
        hserves.kept.leaves hr rfl ⟨Nat.zero_le _, fun _ => rfl, by simp, by simp, by simp⟩, hbare⟩))
  | refer =>
    rw [actOnVerdict_refer hcur]
    exact settle_turns hs (turns_update (view_modRecord_some (f := fun r => { r with st := .referred, achieved := 0 })
      (fun _ => ⟨rfl, rfl⟩) hv hr) (.next rfl ⟨hserves.holdings,
        hserves.kept.leaves hr rfl ⟨Nat.zero_le _, fun _ => rfl, fun _ => hprogram, by simp, by simp⟩, hbare⟩))

/-- The verdict recorded, the pin and the scan record gone (R104). -/
theorem withVerdict_view {k : Nat} {r : Comp} (hr : s.record? b k = some r) (m c i : Nat) (j : Judgement) :
    (s.withVerdict b k m c i j).view = Function.update s.view b ((({ s.view b with
      books := (s.view b).books.withRecord k
        { r with verdict := some { maxGrade := m, overCount := c, outcome := some j, index := i } } } : View).withScan none).withPin none) :=
  view_setPin_at (view_setScan_at (view_modRecord_some
    (f := fun r => { r with verdict := some { maxGrade := m, overCount := c, outcome := some j, index := i } }) (fun _ => ⟨rfl, rfl⟩)
    (view_self s b) hr))

theorem giveVerdict_bays {x : Scan} (hs : s.BaysSound) (hst : (s.lane b).st = .scanning) : (s.giveVerdict b x).BaysSound := by
  obtain ⟨k, hserves, hfree, -⟩ := (hs b).scanning hst
  obtain ⟨r, hr, -⟩ := hserves.kept.serves_washing rfl
  have hf := hserves.kept.formed k r hr
  rw [giveVerdict_eq hserves.serves.1 rfl rfl rfl rfl]
  have hv := fun m c i j => withVerdict_view hr m c i j
  have hV : ∀ m c i j, (s.withVerdict b k m c i j).view b = _ := fun m c i j => by rw [hv, Function.update_self]
  refine actOnVerdict_bays (k := k) hs (by rw [hV, hv]) ?_ (by rw [hV]; exact hfree) (by rw [hV]; exact ⟨rfl, rfl⟩)
    (by rw [hV]; exact fun hi => absurd (hst.symm.trans hi) (by simp)) _
  rw [hV]
  exact ⟨hserves.holdings, hserves.serves,
    hserves.kept.touch hr rfl ⟨hf.achieved, hf.unachieved, hf.program, hf.certificate, hf.order⟩⟩

theorem giveVerdict_keeps (x : Scan) (hst : (s.lane b).st = .scanning) : s.Keeps (s.giveVerdict b x) :=
  ⟨fun hs => giveVerdict_bays hs hst, ((SameCauses.refl s).giveVerdict b x).mode,
    fun ha => absurd ((ha.lanes b).1.symm.trans hst) (by simp)⟩

theorem takeProbe_keeps (s : State) (b : Bay) (g : Grade) : s.Keeps (s.takeProbe b g) := by
  by_cases hst : (s.lane b).st = .scanning
  · cases hy : s.scan b with
    | none =>
      have hsame : s.takeProbe b g = s := by
        unfold State.takeProbe
        dsimp only
        split
        next x _ hx => exact absurd (hx.symm.trans hy) (Option.some_ne_none x)
        next => rfl
      rw [hsame]
      exact .refl s
    | some y =>
      have hst' : ((s.withReading b y.pointer g).lane b).st = .scanning := by rw [lane_withReading]; exact hst
      cases hz : (scanZones y.window y.order)[y.written + 1]? with
      | some z =>
        rw [takeProbe_goesOn hst hy hz]
        exact (withReading_keeps s b y.pointer g).trans (setScan_keeps hst' hy hz)
      | none =>
        rw [takeProbe_last hst hy hz]
        exact (withReading_keeps s b y.pointer g).trans (giveVerdict_keeps _ hst')
  · rw [takeProbe_ignored g hst]
    exact .refl s

/-! ## Messages and ports -/

theorem takeMessage_keeps (s : State) (b : Bay) (m : PortMessage) : s.Keeps (s.takeMessage b m) := by
  cases m with
  | report r => exact takeReport_keeps s b r
  | seated k => exact takeSeated_keeps s b k
  | lifted => exact takeLifted_keeps s b
  | drainClear => exact takeDrainClear_keeps s b
  | highLevel => exact takeHighLevel_keeps s b
  | probe g => exact takeProbe_keeps s b g

theorem takeMessage?_keeps (s : State) (b : Bay) (m : Option PortMessage) : s.Keeps (s.takeMessage? b m) := by
  cases m with
  | none => exact .refl s
  | some m => exact takeMessage_keeps s b m

theorem setPartway_keeps (s : State) (b : Bay) (p : Option (List Byte)) : s.Keeps (s.setPartway b p) :=
  .of_view rfl rfl (fun _ => rfl) (fun _ => ⟨rfl, rfl⟩) rfl

theorem portByte_keeps (s : State) (b : Bay) (x : Byte) : s.Keeps (s.portByte b x) := by
  unfold State.portByte
  split
  · split
    · exact setPartway_keeps s b _
    · exact .refl s
  · split
    · exact setPartway_keeps s b _
    · exact setPartway_keeps s b _
  · split
    · exact setPartway_keeps s b _
    · dsimp only
      split
      · exact (setPartway_keeps s b none).trans (takeMessage?_keeps _ b _)
      · exact setPartway_keeps s b none

theorem ordersSent_keeps (s : State) (b : Bay) : s.Keeps (s.ordersSent b) := by
  unfold State.ordersSent
  dsimp only
  split
  · exact .refl s
  · exact .of_view rfl rfl (fun _ => rfl) (fun _ => ⟨rfl, rfl⟩) rfl

/-! ## Links -/

theorem setLink_keeps (s : State) (l : LinkId) (x : Link) : s.Keeps (s.setLink l x) := by
  cases l with
  | office => exact .of_view rfl rfl (fun _ => rfl) (fun _ => ⟨rfl, rfl⟩) rfl
  | panel => exact .of_view rfl rfl (fun _ => rfl) (fun _ => ⟨rfl, rfl⟩) rfl

theorem setNotices_keeps (s : State) (u : NoticeUnit) : s.Keeps (s.setNotices u) :=
  .of_view rfl rfl (fun _ => rfl) (fun _ => ⟨rfl, rfl⟩) rfl

theorem choose_keeps (s : State) : s.Keeps s.choose := by
  have h1 := (setLink_keeps s .office s.office.choose).trans (setLink_keeps _ .panel s.panel.choose)
  unfold State.choose State.chooseNotice
  split
  · exact h1
  · split
    · exact h1
    · exact h1.trans ((setLink_keeps ..).trans (setNotices_keeps ..))

theorem setCerts_keeps (s : State) {u : CertUnit} (h : u.withheld = s.certs.withheld) : s.Keeps (s.setCerts u) :=
  .of_view (view_setCerts s h) rfl (fun _ => rfl) (fun _ => ⟨rfl, rfl⟩) h

theorem judgeBacklog_keeps (s : State) : s.Keeps s.judgeBacklog := by
  unfold State.judgeBacklog
  dsimp only
  split
  · exact .refl s
  · exact .of_view ((view_raiseYard ..).trans (view_setCerts _ rfl)) rfl (fun _ => rfl) (fun _ => ⟨rfl, rfl⟩) rfl

end

end Sys2Proof.Machine
end

section
/-! PROOFS. Utilities lost, returned and set keep the yard sound (R90, R117, R118, R122 to R127). -/

namespace Sys2Proof.Machine

/-- The lane SUSPENDED, what it serves and executes unchanged (R90). -/
def View.suspended (V : View) : View := { V with post := { V.post with st := .suspended } }

section
variable {s t : State} {b : Bay} {u : UtilId} {x : Util}

theorem setUtil_keeps (s : State) {u : UtilId} {x : Util} (hg : x.grants = (s.util u).grants) (hc : x.claims = (s.util u).claims) :
    s.Keeps (s.setUtil u x) := by
  refine .of_view (view_setUtil_same fun b => by rw [Util.countsOf, hg, hc]; rfl) rfl (fun _ => rfl) (fun v => ?_) rfl
  by_cases hv : v = u
  · subst hv
    rw [util_setUtil]
    exact ⟨hg, hc⟩
  · rw [util_setUtil_other s x (Ne.symm hv)]
    exact ⟨rfl, rfl⟩

theorem view_suspend (s : State) (b : Bay) : (s.suspend b).view = Function.update s.view b (s.view b).suspended := view_setLane ..

theorem view_suspendAll (cs : List Claim) (s : State) (d : Bay) : (cs.foldl (fun q c => q.suspend c.lane) s).view d =
    if ∃ c ∈ cs, c.lane = d then (s.view d).suspended else s.view d := by
  induction cs generalizing s with
  | nil => simp
  | cons c cs ih =>
    rw [List.foldl_cons, ih, view_suspend]
    by_cases hd : d = c.lane
    · subst hd
      rw [Function.update_self, if_pos (c := ∃ x ∈ c :: cs, x.lane = c.lane) ⟨c, List.mem_cons_self, rfl⟩]
      split <;> rfl
    · rw [Function.update_of_ne hd]
      simp [Ne.symm hd]

theorem mode_suspendAll (cs : List Claim) (s : State) : (cs.foldl (fun q c => q.suspend c.lane) s).mode = s.mode := by
  induction cs generalizing s with
  | nil => rfl
  | cons c cs ih => exact (ih _).trans rfl

theorem countP_insertAll (cs q : List Claim) (b : Bay) :
    (cs.foldl (fun q c => insertClaim { c with kept := true } q) q).countP (fun c => decide (c.lane = b)) =
      q.countP (fun c => decide (c.lane = b)) + cs.countP fun c => decide (c.lane = b) := by
  induction cs generalizing q with
  | nil => rfl
  | cons c cs ih =>
    rw [List.foldl_cons, ih, countP_insertClaim, List.countP_cons]
    simp only [decide_eq_true_eq]
    omega

/-- A lane with a grant works on it. -/
theorem View.Sound.grant {V : View} (h : V.Sound) (hu : 0 < (V.holdings u).1) :
    V.holdings = (Held.grant u).counts ∧ ∃ k w, V.post.Serves (some (k, w)) ∧ V.books.Kept (some (k, w)) ∧ V.post.Free ∧ V.post.Waits u w := by
  obtain ⟨sv, hd, hs, hw⟩ := h
  obtain rfl : hd = .grant u := (counts_grant_iff hd u).mp (hs.holdings ▸ hu)
  have hst := (hw.clauses hs.serves).grants u rfl
  unfold Post.Works at hw
  rcases hst with hst | ⟨hst, hdraws⟩
  · rw [hst] at hw
    obtain ⟨hfree, hbare, k, v, rfl, -⟩ := hw
    exact ⟨hs.holdings, k, .fill, hs.serves, hs.kept, hfree, hbare⟩
  · rw [hst] at hw
    obtain ⟨hfree, hsteps, -, k, rfl⟩ := hw
    exact ⟨hs.holdings, k, .wash, hs.serves, hs.kept, hfree, hsteps, hdraws⟩

/-- A utility that goes out of service: each holder is SUSPENDED with a kept claim (R123). -/
theorem lose_bays (hs : s.BaysSound) (hg : x.grants = (s.util u).grants) (hc : x.claims = (s.util u).claims) :
    (x.grants.foldl (fun q c => q.suspend c.lane) (s.setUtil u { x with
      grants := [], claims := x.grants.foldl (fun q c => insertClaim { c with kept := true } q) x.claims })).BaysSound := fun d => by
  have hnew : ({ x with grants := [], claims := x.grants.foldl (fun q c => insertClaim { c with kept := true } q) x.claims } : Util).countsOf d =
      (0, (s.holdings d u).2 + (s.holdings d u).1) := by
    rw [Util.countsOf, countP_insertAll, hg, hc]
    rfl
  have hview := view_setUtil s u
    { x with grants := [], claims := x.grants.foldl (fun q c => insertClaim { c with kept := true } q) x.claims } d
  rw [hnew] at hview
  rw [view_suspendAll, hview]
  split
  next hmem =>
    have hpos : 0 < (s.holdings d u).1 := by
      obtain ⟨c, hcm, hcd⟩ := hmem
      exact List.countP_pos_iff.mpr ⟨c, hg ▸ hcm, by simp [hcd]⟩
    obtain ⟨hh, k, w, hserves, hkept, hfree, hwait⟩ := (hs d).grant hpos
    have hh' : s.holdings d = (Held.grant u).counts := hh
    refine ⟨some (k, w), .claim u, ⟨funext fun v => ?_, hserves, hkept⟩, hfree, k, w, u, rfl, rfl, hwait⟩
    show Function.update (s.holdings d) u _ v = _
    by_cases hv : v = u
    · subst hv
      rw [Function.update_self, hh']
      simp [Held.counts]
    · rw [Function.update_of_ne hv, hh']
      simp [Held.counts, hv]
  next hnone =>
    have hzero : (s.holdings d u).1 = 0 := List.countP_eq_zero.mpr fun c hcm => by
      simpa using fun hcd => hnone ⟨c, hg ▸ hcm, hcd⟩
    have hsame : (0, (s.holdings d u).2 + (s.holdings d u).1) = s.holdings d u := Prod.ext hzero.symm (by simp [hzero])
    rw [hsame, Function.update_eq_self]
    exact hs d

/-- A record of a utility stored with its grants and claims, and the effect on its service. -/
theorem storeService_keeps (s : State) {u : UtilId} {x : Util} (plantFault : Bool) (hg : x.grants = (s.util u).grants)
    (hc : x.claims = (s.util u).claims) :
    s.Keeps (s.storeService u x plantFault).1 ∧ ∀ y ∈ (s.storeService u x plantFault).2, y.opens = true := by
  cases hwas : (s.util u).inService with
  | true =>
    cases his : x.inService with
    | true =>
      simp only [State.storeService, hwas, his]
      exact ⟨setUtil_keeps s hg hc, nofun⟩
    | false =>
      rw [storeService_loses plantFault hwas his]
      refine ⟨⟨fun hs => bays_of_view (lose_bays hs hg hc) (view_raiseYard ..), mode_suspendAll .., fun ha => ?_⟩, nofun⟩
      rw [hg, (ha.utils u).1]
      refine State.Asleep.raiseYard (ha.setUtil ⟨rfl, ?_⟩) _
      rw [hc]
      exact (ha.utils u).2
  | false =>
    cases his : x.inService with
    | true =>
      simp only [State.storeService, hwas, his]
      refine ⟨(setUtil_keeps s hg hc).trans (setUtil_keeps _ ?_ ?_), by simp [Task.opens]⟩
      · rw [util_setUtil]
      · rw [util_setUtil]
    | false =>
      simp only [State.storeService, hwas, his]
      exact ⟨setUtil_keeps s hg hc, nofun⟩

theorem putFault_keeps (s : State) (u : UtilId) (v : Bool) : s.Keeps (s.putFault u v) := by
  obtain ⟨h, hts⟩ := storeService_keeps s (u := u) (x := { s.util u with fault := v }) true rfl rfl
  exact h.settle hts

theorem setUtility_keeps (s : State) (u : UtilId) (capacity : Nat) (offline : Bool) (cargo : Option Cargo) :
    s.Keeps (s.setUtility u capacity offline cargo) := by
  obtain ⟨h, hts⟩ := storeService_keeps s (u := u) (x := { s.util u with cargo := cargo, capacity := capacity, offline := offline }) false
    rfl rfl
  refine h.settle ?_
  split
  · simp [Task.opens]
  · exact hts

end

end Sys2Proof.Machine
end

section
/-! PROOFS. ADMIT, DEPART and BAY_CLEAR keep the yard sound (R7, R8, R22, R23, R85). -/

namespace Sys2Proof.Machine

/-! ## Books of a bay with no visit, and of a visit just admitted -/

/-- The books of a bay with no visit. -/
def Books.blank : Books where
  visit := none
  keys := []
  record := fun _ => none
  withheld := []
  queue := []

namespace Books

variable {B : Books} {sv : Option (Nat × Service)}

theorem kept_blank : blank.Kept none where
  visit _ h := by cases h
  keys := List.nodup_nil
  records k := by simp [blank]
  formed _ _ h := by cases h
  places k := by
    rw [placeOf_none (B := blank) rfl]
    exact ⟨by simp, by simp, by simp [blank], by simp [blank], by simp [blank]⟩
  queue := List.nodup_nil
  withheld := List.nodup_nil

/-- A visit and its records entered where there was none, each of them standing nowhere (R8). -/
theorem Kept.admits (h : B.Kept sv) (hv : B.visit = none) {v : Visit} (hn : 1 ≤ v.count ∧ v.count ≤ 8) {ks : List Nat}
    {f : Nat → Option Comp} (hk : ks.Nodup) (hf : ∀ k, (f k).isSome = true ↔ 1 ≤ k ∧ k ≤ v.count)
    (hr : ∀ k r, f k = some r → r.Formed ∧ r.place = .nowhere) :
    ({ B with visit := some v, keys := ks, record := f } : Books).Kept sv where
  visit w hw := Option.some.inj hw ▸ hn
  keys := hk
  records k := by simpa using hf k
  formed k r hkr := (hr k r hkr).1
  places k := by
    have hat := h.places k
    rw [placeOf_none (h.record_none hv k)] at hat
    have hplace : ({ B with visit := some v, keys := ks, record := f } : Books).placeOf k = .nowhere := by
      cases hfk : f k with
      | none => exact placeOf_none hfk
      | some r => exact (placeOf_some hfk).trans (hr k r hfk).2
    rw [hplace]
    exact ⟨hat.washed, hat.filled, hat.washQueued, hat.fillQueued, hat.withheld⟩
  queue := h.queue
  withheld := h.withheld

end Books

section
variable {s t : State} {b : Bay} {V : View}

/-! ## Updates of a bay's visit and records -/

theorem record?_eq_filter (s : State) (b : Bay) (k : Nat) :
    s.record? b k = (s.records.filter fun r => decide (r.bay = b)).find? fun r => r.index == k := by
  rw [List.find?_filter, State.record?]
  exact congrArg (fun p => s.records.find? p) (funext fun r => by simp [Comp.isAt, Bool.decide_and, beq_eq_decide])

/-- One bay's visit and records replaced. -/
theorem view_setVisit_setRecords (s : State) (v : Option Visit) {rs : List Comp}
    (hd : ∀ d, d ≠ b → (rs.filter fun r => decide (r.bay = d)) = s.records.filter fun r => decide (r.bay = d)) :
    ((s.setVisit b v).setRecords rs).view = Function.update s.view b { s.view b with books := { (s.view b).books with
      visit := v
      keys := (rs.filter fun r => decide (r.bay = b)).map Comp.index
      record := fun k => (rs.filter fun r => decide (r.bay = b)).find? fun r => r.index == k } } := by
  refine view_eq_update s ?_ fun d hne => ?_
  · have hrec : ((s.setVisit b v).setRecords rs).record? b = fun k =>
        (rs.filter fun r => decide (r.bay = b)).find? fun r => r.index == k := funext fun k => record?_eq_filter ..
    have hvis : ((s.setVisit b v).setRecords rs).visit b = v := visit_setVisit s b v
    simp only [State.view, State.books, hrec, hvis]
    rfl
  · have hrec : ((s.setVisit b v).setRecords rs).record? d = s.record? d := funext fun k => by
      rw [record?_eq_filter, record?_eq_filter]
      exact congrArg (List.find? _) (hd d hne)
    have hvis : ((s.setVisit b v).setRecords rs).visit d = s.visit d := visit_setVisit_other s v hne
    have hkeys : ((s.setVisit b v).setRecords rs).records.filter (fun r => decide (r.bay = d)) =
        s.records.filter fun r => decide (r.bay = d) := hd d hne
    simp only [State.view, State.books, hrec, hvis, hkeys]
    rfl

/-- The visit and the records of a bay removed (R22, R23). -/
def View.freed (V : View) : View := { V with books := { V.books with visit := none, keys := [], record := fun _ => none } }

theorem view_freeVisit_at (hv : t.view = Function.update s.view b V) : (t.freeVisit b).view = Function.update s.view b V.freed := by
  have hnone : (t.records.filter fun r => !(r.bay == b)).filter (fun r => decide (r.bay = b)) = [] :=
    List.filter_eq_nil_iff.mpr fun r hr => by simpa using (List.mem_filter.mp hr).2
  have hfree := view_setVisit_setRecords (b := b) t none (rs := t.records.filter fun r => !(r.bay == b)) fun d hd => by
    rw [List.filter_filter]
    refine List.filter_congr fun r _ => ?_
    by_cases hr : r.bay = d
    · simp [hr, hd]
    · simp [hr]
  rw [hnone, hv, Function.update_self, Function.update_idem] at hfree
  exact hfree

theorem view_setLane_at {m : Lane} (hv : t.view = Function.update s.view b V) :
    (t.setLane b m).view = Function.update s.view b (V.withLane m (t.entry m.index)) := by
  rw [view_setLane, hv, Function.update_self, Function.update_idem]

theorem view_withheld_cleared (hv : t.view = Function.update s.view b V) :
    (t.setCerts { t.certs with withheld := t.certs.withheld.filter fun w => !(w.bay == b) }).view =
      Function.update s.view b (V.withWithheld []) := by
  rw [view_setCerts_withheld (b := b) (l := []) ?_ fun d hd => ?_, hv, Function.update_self, Function.update_idem]
  · exact List.map_eq_nil_iff.mpr (List.filter_eq_nil_iff.mpr fun w hw => by simpa using (List.mem_filter.mp hw).2)
  · rw [List.filter_filter]
    refine List.filter_congr fun w _ => ?_
    by_cases hw : w.bay = d
    · simp [hw, hd]
    · simp [hw]

theorem Post.Works.of_idle {p : Post} (hst : p.st = .idle) (hr : p.ret = none) (hb : p.Bare) : p.Works none .nothing := by
  unfold Post.Works
  rw [hst]
  exact ⟨rfl, hr, hb, rfl⟩

/-- One bay changed and left sound. -/
theorem bays_of_update (hs : s.BaysSound) (hv : t.view = Function.update s.view b V) (h : V.Sound) : t.BaysSound := fun d => by
  rw [hv]
  by_cases hd : d = b
  · subst hd
    rwa [Function.update_self]
  · rw [Function.update_of_ne hd]
    exact hs d

/-! ## ADMIT -/

theorem formed_fresh (b : Bay) (k : Nat) (p : Option Cargo) : (Comp.fresh b k p).Formed :=
  ⟨Nat.zero_le _, fun _ => rfl, by simp [Comp.fresh], by simp [Comp.fresh], by simp [Comp.fresh]⟩

theorem find?_fresh (b : Bay) (ps : List (Option Cargo)) (k : Nat) :
    (freshRecords b ps).find? (fun r => r.index == k) =
      if 1 ≤ k ∧ k ≤ ps.length then some (Comp.fresh b k (ps.getD (k - 1) none)) else none := by
  rw [freshRecords_eq, List.find?_map]
  split
  next h =>
    have hk : k - 1 + 1 = k := by omega
    have hfind : (List.range ps.length).find? ((fun r : Comp => r.index == k) ∘ fun i => Comp.fresh b (i + 1) (ps.getD i none)) =
        some (k - 1) := by
      rw [List.find?_range_eq_some]
      refine ⟨by simp [Comp.fresh, hk], by simp; omega, fun j hj => ?_⟩
      simp only [Comp.fresh, Function.comp_apply, Bool.not_eq_true', beq_eq_false_iff_ne]
      omega
    rw [hfind]
    simp [hk]
  next h =>
    rw [Option.map_eq_none_iff, List.find?_range_eq_none]
    intro i hi
    simp only [Comp.fresh, Function.comp_apply, Bool.not_eq_true', beq_eq_false_iff_ne]
    omega

theorem admitVisit_bays {fleet : Nat} {urgent : Bool} {ps : List (Option Cargo)} (hs : s.BaysSound) (hv : s.visit b = none)
    (hn : 1 ≤ ps.length ∧ ps.length ≤ 8) : (s.admitVisit b fleet urgent ps).BaysSound := by
  have hfresh : ∀ d, (freshRecords b ps).filter (fun r => decide (r.bay = d)) = if d = b then freshRecords b ps else [] := fun d => by
    rw [freshRecords_eq]
    split
    next h => exact List.filter_eq_self.mpr fun r hr => by obtain ⟨i, -, rfl⟩ := List.mem_map.mp hr; simp [Comp.fresh, h]
    next h => exact List.filter_eq_nil_iff.mpr fun r hr => by obtain ⟨i, -, rfl⟩ := List.mem_map.mp hr; simpa [Comp.fresh] using Ne.symm h
  obtain ⟨sv, hd, hserves, hw⟩ := hs b
  have hold : s.records.filter (fun r => decide (r.bay = b)) = [] := List.filter_eq_nil_iff.mpr fun r hr hb => by
    have := (exists_record_iff s b r.index).mp ⟨r, hr, of_decide_eq_true hb, rfl⟩
    rw [show s.record? b r.index = none from hserves.kept.record_none hv r.index] at this
    cases this
  have hview := view_setVisit_setRecords (b := b) s (some { fleet := fleet, urgent := urgent, count := ps.length })
    (rs := s.records ++ freshRecords b ps) fun d hne => by rw [List.filter_append, hfresh, if_neg hne, List.append_nil]
  rw [List.filter_append, hold, hfresh, if_pos rfl, List.nil_append] at hview
  refine bays_of_update hs hview ⟨sv, hd, ⟨hserves.holdings, hserves.serves, ?_⟩, hw⟩
  refine hserves.kept.admits hv hn ?_ (fun k => ?_) fun k r hr => ?_
  · rw [freshRecords_eq, List.map_map]
    exact List.nodup_range.map fun i j h => Nat.succ.inj h
  · rw [find?_fresh]
    split <;> simp_all
  · rw [find?_fresh] at hr
    split at hr
    · obtain rfl := Option.some.inj hr
      exact ⟨formed_fresh .., rfl⟩
    · cases hr

/-! ## DEPART and BAY_CLEAR -/

theorem depart_bays (hs : s.BaysSound)
    (hr : ∀ r ∈ s.records, r.bay = b → (r.st = .admitted ∨ r.st = .dirty ∨ r.st = .certified ∨ r.st = .filled)) :
    (s.depart b).BaysSound := by
  have hbar : ∀ {k r}, s.record? b k = some r → r.st ∉ [CompState.queued, .washing, .awaitCert, .filling] := fun {k r} hk => by
    rcases hr r (record?_mem hk) (record?_names hk).1 with h | h | h | h <;> simp [h]
  obtain ⟨sv, hd, hserves, hw⟩ := hs b
  obtain rfl : sv = none := by
    cases hsv : sv with
    | none => rfl
    | some x =>
      obtain ⟨k, w⟩ := x
      cases w with
      | wash =>
        obtain ⟨r, hk, hst⟩ := hserves.kept.serves_washing hsv
        exact absurd (by simp [hst]) (hbar hk)
      | fill =>
        obtain ⟨r, hk, hst⟩ := hserves.kept.serves_filling hsv
        exact absurd (by simp [hst]) (hbar hk)
  have hidle : (s.lane b).st = .idle := (works_idle_iff hw).mpr rfl
  obtain ⟨hh, hsv, -, hret, hbare⟩ := (hs b).idle hidle
  have hqueue : (s.lane b).queue.filter (fun e => !(e.kind == .fill)) = [] := List.filter_eq_nil_iff.mpr fun e he hk => by
    obtain ⟨k, w⟩ := e
    cases w with
    | wash =>
      obtain ⟨r, hrec, hst⟩ := hserves.kept.washQueued he
      exact hbar hrec (by simp [hst])
    | fill => simp at hk
  have hheld : (s.view b).books.withheld = [] := List.eq_nil_iff_forall_not_mem.mpr fun k hk => by
    obtain ⟨r, hrec, hst⟩ := hserves.kept.withheld_awaits hk
    exact hbar hrec (by simp [hst])
  have hv := view_freeVisit_at (view_setLane_at
    (m := { (s.lane b).park with queue := (s.lane b).queue.filter fun e => !(e.kind == .fill), seated := none }) (view_self s b))
  refine bays_of_update hs hv ⟨none, .nothing, ⟨hh, hsv, ?_⟩, ?_⟩
  · have hblank : (View.freed ((s.view b).withLane
        { (s.lane b).park with queue := (s.lane b).queue.filter fun e => !(e.kind == .fill), seated := none }
        (s.entry (s.lane b).index))).books = Books.blank := by
      simp only [View.freed, View.withLane, hqueue, hheld]
      rfl
    exact hblank ▸ Books.kept_blank
  · exact Post.Works.of_idle hidle hret hbare

theorem clearBay_bays (hs : s.BaysSound) (b : Bay) : (s.clearBay b).BaysSound := by
  obtain ⟨sv, hd, hserves, -⟩ := hs b
  obtain ⟨hv, htasks⟩ := release_view hserves.holdings
  have hview := view_freeVisit_at (view_withheld_cleared
    (view_setLane_at (m := ((s.release b).1.lane b).cleared) (view_setScan_at (x := none) (view_setPin_at (i := none) hv))))
  rw [clearBay_eq]
  refine settle_turns hs (b := b) (t := s.clearedBay b) (ts := (s.release b).2) ⟨_, hview, ?_⟩
  have hsound : View.Sound (View.freed (View.withWithheld (View.withLane ((((s.view b).withHeld .nothing).withPin none).withScan none)
      ((s.release b).1.lane b).cleared (((s.release b).1.setPin b none).setScan b none |>.entry ((s.release b).1.lane b).cleared.index)) [])) :=
    ⟨none, .nothing, ⟨rfl, ⟨rfl, rfl⟩, Books.kept_blank⟩, rfl, rfl, ⟨rfl, rfl⟩, rfl⟩
  rcases htasks with ⟨-, htasks⟩ | ⟨-, u, htasks⟩
  · rw [htasks]
    exact .rests hsound
  · rw [htasks]
    exact .arbiter u hsound

end

end Sys2Proof.Machine
end

section
/-! PROOFS. The requests on a compartment keep the yard sound (R9, R16 to R19, R56 to R58, R138). -/

namespace Sys2Proof.Machine

section
variable {s t : State} {b : Bay} {k : Nat} {r r' : Comp} {sv : Option (Nat × Service)}

theorem findRecord_ok (h : s.findRecord b k = .ok r) : s.record? b k = some r := by
  unfold State.findRecord at h
  repeat' split at h
  all_goals simp_all

/-- A record changed where it stands. -/
theorem touch_bays {f : Comp → Comp} (hs : s.BaysSound) (hr : s.record? b k = some r) (hf : ∀ r, (f r).bay = r.bay ∧ (f r).index = r.index)
    (hp : r.Formed → (f r).place = r.place ∧ (f r).Formed) : (s.modRecord b k f).BaysSound :=
  ((State.Keeps.refl s).modRecord b k hf fun _ hq hform => by
    obtain rfl := Option.some.inj (hr.symm.trans hq)
    exact hp hform).bays hs

/-! ## Entries joined to the queue -/

/-- The record set and its entry put at the queue's tail, its lane judged where it became the head (R64). -/
theorem append_bays {w : Service} {f : Comp → Comp} (hs : s.BaysSound) (hf : ∀ r, (f r).bay = r.bay ∧ (f r).index = r.index)
    (hr : s.record? b k = some r) (hnow : r.place = .nowhere) (hform : (f r).Formed)
    (hp : (f r).place = match w with | .wash => .washQueued | .fill => .fillQueued) :
    (((s.modRecord b k f).appendEntry b { index := k, kind := w }).settle (s.afterIssue b)).BaysSound := by
  obtain ⟨sv, hd, hserves, hw⟩ := hs b
  have hsound : View.Sound (View.withLane { s.view b with books := (s.view b).books.withRecord k (f r) }
      { (s.modRecord b k f).lane b with queue := ((s.modRecord b k f).lane b).queue ++ [{ index := k, kind := w }] }
      ((s.modRecord b k f).entry ((s.modRecord b k f).lane b).index)) :=
    ⟨sv, hd, ⟨hserves.holdings, hserves.serves, hserves.kept.queues hr hnow hform hp⟩, hw⟩
  refine settle_turns hs (turns_setLane (view_modRecord_some hf (view_self s b) hr) ?_)
  rcases afterIssue_cases s b with h | h
  · rw [h]
    exact .rests hsound
  · rw [h]
    exact .judges hsound

theorem assign_bays {p : Program} (hs : s.BaysSound) (hr : s.record? b k = some r) (hst : r.st = .admitted ∨ r.st = .dirty) :
    (s.assign b k p).BaysSound := by
  obtain ⟨sv, hd, hserves, -⟩ := hs b
  have hform := hserves.kept.formed k r hr
  have hzero : r.achieved = 0 := hform.unachieved (by rcases hst with h | h <;> simp [h])
  exact append_bays (w := .wash) hs (fun _ => ⟨rfl, rfl⟩) hr (by rcases hst with h | h <;> simp [Comp.place, h])
    ⟨hzero.le.trans (Nat.zero_le _), fun _ => hzero, fun _ => rfl, by simp, by simp⟩ rfl

theorem orderFill_bays {o : FillOrder} (hs : s.BaysSound) (hr : s.record? b k = some r) (hst : r.st.mayOrder = true) :
    (s.orderFill b r o).BaysSound := by
  obtain ⟨-, rfl⟩ := record?_names hr
  obtain ⟨sv, hd, hserves, -⟩ := hs b
  have hform := hserves.kept.formed _ r hr
  obtain ⟨hfilling, -⟩ := (mayOrder_iff r.st).mp hst
  have hform' : ({ r with order := some o } : Comp).Formed := ⟨hform.achieved, hform.unachieved, hform.program, hform.certificate, fun _ => rfl⟩
  by_cases hq : r.st = .certified ∧ (s.lane b).queuedFill r.index = false
  · obtain ⟨hcert, hno⟩ := id hq
    have hnow : r.place = .nowhere := by
      have hat := hserves.kept.record_at hr
      rw [Comp.place, hcert]
      cases ho : r.order with
      | none => rfl
      | some x =>
        have hmem := hat.fillQueued.mpr ((place_eq_fillQueued_iff r).mpr ⟨hcert, by simp [ho]⟩)
        rw [(queuedFill_iff _ _).mpr hmem] at hno
        cases hno
    unfold State.orderFill
    rw [if_pos hq]
    exact append_bays (w := .fill) hs (fun _ => ⟨rfl, rfl⟩) hr hnow hform' (by simp [Comp.place, hcert])
  · unfold State.orderFill
    rw [if_neg hq]
    have hplace : ({ r with order := some o } : Comp).place = r.place := by
      by_cases hcert : r.st = .certified
      · have hmem : { index := r.index, kind := .fill } ∈ (s.lane b).queue :=
          (queuedFill_iff _ _).mp (Bool.eq_true_of_not_eq_false fun h => hq ⟨hcert, h⟩)
        rw [((hserves.kept.record_at hr).fillQueued.mp hmem), place_eq_fillQueued_iff]
        exact ⟨hcert, rfl⟩
      · unfold Comp.place
        cases h : r.st with
        | certified => exact absurd h hcert
        | _ => rfl
    exact touch_bays hs hr (fun _ => ⟨rfl, rfl⟩) fun _ => ⟨hplace, hform'⟩

/-! ## A fill order cancelled -/

/-- A FILL entry removed from the queue, and its record stands nowhere. -/
theorem Books.Kept.drops {B : Books} (h : B.Kept sv) (hr : B.record k = some r) (hplace : r.place = .nowhere ∨ r.place = .fillQueued)
    (hf : r'.Formed) (hp : r'.place = .nowhere) :
    ({ B with queue := B.queue.filter fun e => decide (e ≠ { index := k, kind := .fill }) } : Books).withRecord k r' |>.Kept sv := by
  have hat := h.record_at hr
  have hno : r.place ≠ .washed ∧ r.place ≠ .filled ∧ r.place ≠ .washQueued ∧ r.place ≠ .withheld := by
    rcases hplace with h | h <;> simp [h]
  obtain ⟨hwashed, hfilled, hqueued, hheld⟩ := hno
  refine h.moves (l := B.withheld) hr hf ?_ (fun _ _ _ => Iff.rfl) (fun j hj w => ?_) (fun _ _ => Iff.rfl) ?_ h.withheld
  · rw [hp]
    exact ⟨iff_of_false (mt hat.washed.mp hwashed) Place.noConfusion, iff_of_false (mt hat.filled.mp hfilled) Place.noConfusion,
      iff_of_false (fun hm => hqueued (hat.washQueued.mp (List.mem_filter.mp hm).1)) Place.noConfusion, by simp,
      iff_of_false (mt hat.withheld.mp hheld) Place.noConfusion⟩
  · simp [hj]
  · exact h.queue.sublist (List.filter_sublist.map _)

theorem dropFill_bays (hs : s.BaysSound) (hr : s.record? b k = some r) (hst : r.st = .certified) : (s.dropFill b k).BaysSound := by
  obtain ⟨sv, hd, hserves, hw⟩ := hs b
  have hform := hserves.kept.formed k r hr
  have hplace : r.place = .nowhere ∨ r.place = .fillQueued := by
    rw [Comp.place, hst]
    cases r.order <;> simp
  have hform' : ({ r with order := none } : Comp).Formed :=
    ⟨hform.achieved, hform.unachieved, hform.program, hform.certificate, fun h => by simp [hst] at h⟩
  have hsound : View.Sound (View.withLane { s.view b with books := (s.view b).books.withRecord k { r with order := none } }
      { s.lane b with queue := (s.lane b).queue.filter fun e => decide (e ≠ { index := k, kind := .fill }) }
      ((s.modRecord b k fun x => { x with order := none }).entry (s.lane b).index)) :=
    ⟨sv, hd, ⟨hserves.holdings, hserves.serves, hserves.kept.drops hr hplace hform' (by simp [Comp.place, hst])⟩, hw⟩
  rw [dropFill_eq]
  refine settle_turns hs (turns_setLane (view_modRecord_some (f := fun x => { x with order := none }) (fun _ => ⟨rfl, rfl⟩)
    (view_self s b) hr) ?_)
  split
  · exact .judges hsound
  · exact .rests hsound

theorem endFill_bays (hs : s.BaysSound) (hr : s.record? b k = some r) (hst : r.st = .filling) (e : FillEnd) :
    (s.settle [.endFill b e]).BaysSound := by
  obtain ⟨sv, hd, hserves, hw⟩ := hs b
  obtain rfl : sv = some (k, .fill) := (hserves.kept.record_at hr).filled.mpr ((place_eq_filled_iff r).mpr hst)
  have hidle : (s.lane b).st ≠ .idle := fun h => Option.some_ne_none _ ((works_idle_iff hw).mp h)
  exact (endFill_keeps hidle fun _ => hserves.serves.2).bays hs

theorem dropOrder_bays (hs : s.BaysSound) (hr : s.record? b k = some r) (hc : r.st ≠ .certified) (hf : r.st ≠ .filling) :
    (s.modRecord b k fun x => { x with order := none }).BaysSound := by
  refine touch_bays hs hr (fun _ => ⟨rfl, rfl⟩) fun hform => ⟨?_, hform.achieved, hform.unachieved, hform.program,
    hform.certificate, fun h => absurd h hf⟩
  unfold Comp.place
  cases h : r.st with
  | certified => exact absurd h hc
  | _ => rfl

/-! ## Referral rulings -/

theorem rejectReferral_bays (hs : s.BaysSound) (hr : s.record? b k = some r) (hst : r.st = .referred) : (s.rejectReferral b k).BaysSound := by
  exact touch_bays hs hr (fun _ => ⟨rfl, rfl⟩) fun _ => ⟨by simp [Comp.place, hst], Nat.zero_le _, fun _ => rfl, by simp, by simp, by simp⟩

theorem acceptReferral_bays {n : Nat} (hs : s.BaysSound) (hr : s.record? b k = some r) (hst : r.st = .referred) :
    (s.acceptReferral b r n).BaysSound := by
  obtain ⟨-, rfl⟩ := record?_names hr
  obtain ⟨sv, hd, hserves, hw⟩ := hs b
  have hdirty : ({ r with st := .dirty, achieved := 0 } : Comp).Formed := ⟨Nat.zero_le _, fun _ => rfl, by simp, by simp, by simp⟩
  have hlimbo : ((s.view b).books.withRecord r.index { r with achieved := min r.programClass n }).Limbo r.index sv := by
    refine ⟨_, Books.record_withRecord .., min_le_left .., ?_⟩
    rw [Books.withRecord_idem]
    exact hserves.kept.touch hr (by simp [Comp.place, hst]) hdirty
  have hv := view_modRecord_some (f := fun x => { x with achieved := min r.programClass n }) (fun _ => ⟨rfl, rfl⟩) (view_self s b) hr
  obtain ⟨B, hB, hkept, htasks⟩ := certify_view (s := s.modRecord b r.index fun x => { x with achieved := min r.programClass n })
    (b := b) (sv := sv) (k := r.index) (by rw [hv, Function.update_self]; exact hlimbo) true
  rw [hv, Function.update_self, Function.update_idem] at hB
  have hsound : View.Sound { s.view b with books := B } := ⟨sv, hd, ⟨hserves.holdings, hserves.serves, hkept⟩, hw⟩
  unfold State.acceptReferral
  rw [settle_cons, List.append_nil]
  refine settle_turns hs (turns_update hB ?_)
  rcases htasks with h | h
  · rw [h]
    exact .rests hsound
  · rw [h]
    exact .judges hsound

/-! ## EXTEND -/

theorem extended_keeps (r : Comp) (last : StepIx) (h : r.Formed) : (r.extended last).place = r.place ∧ (r.extended last).Formed := by
  refine ⟨rfl, ?_, h.unachieved, fun hm => ?_, h.certificate, h.order⟩
  · refine h.achieved.trans (Eq.le ?_)
    unfold Comp.programClass Comp.extended
    cases r.program <;> rfl
  · have := h.program hm
    unfold Comp.extended
    cases hp : r.program with
    | none => simp [hp] at this
    | some p => rfl

theorem extend_bays (hs : s.BaysSound) (last : StepIx) : (s.extend b k last).1.BaysSound := by
  have h1 : (s.modRecord b k fun r => r.extended last).BaysSound :=
    ((State.Keeps.refl s).modRecord (f := fun r => r.extended last) b k (fun _ => ⟨rfl, rfl⟩) fun r _ hform =>
      extended_keeps r last hform).bays hs
  by_cases hcur : (s.lane b).current = some k ∧ (s.lane b).service = some .wash
  · obtain ⟨hc, hw⟩ := hcur
    by_cases hst : (s.lane b).st = .starved
    · rw [extend_starved hc hw hst]
      obtain ⟨sv, hd, hserves, hworks⟩ := h1 b
      have hpost : ((s.modRecord b k fun r => r.extended last).view b).post.st = .starved := hst
      unfold Post.Works at hworks
      rw [hpost] at hworks
      obtain ⟨hfree, hbare, rfl, j, rfl⟩ := hworks
      exact settle_turns h1 (goNext_turns hserves rfl rfl rfl hfree.1 hfree.2 hbare)
    · by_cases hheld : (s.lane b).st = .held ∧ (s.lane b).ret = some .starved
      · rw [extend_held hc hw hheld.1 hheld.2]
        exact bays_of_view h1 (view_setLane_notes ⟨rfl, rfl, rfl, rfl, rfl, rfl, rfl, rfl⟩)
      · rw [extend_apart (.inr (.inr ⟨hst, hheld⟩))]
        exact h1
  · rw [extend_apart (by tauto)]
    exact h1

end

end Sys2Proof.Machine
end

section
/-! PROOFS. Changes of the mode and of marks, RESTART, the reset line and the step store keep the yard sound (R44 to R46, R175 to R183). -/

namespace Sys2Proof.Machine

section
variable {s t : State} {b : Bay}

/-! ## Changes of mode -/

/-- A yard of sound bays in RUN or STOPPED is sound. -/
theorem yardSound_awake (h : s.BaysSound) (hm : s.mode ≠ .dormant) : s.YardSound := (yardSound_iff s).mpr ⟨h, fun hd => absurd hd hm⟩

/-- A yard asleep with sound bays is sound. -/
theorem State.Asleep.sound (h : s.Asleep) (hs : s.BaysSound) : s.YardSound :=
  (yardSound_iff s).mpr ⟨hs, fun _ b => ⟨h.visits b, h.lanes b⟩⟩

theorem modeTasks_opens (left entered : Mode) (cause : ModeCause) :
    ∀ x ∈ modeTasks left entered ++ [.modeChange left entered cause], x.opens = true := by
  refine List.forall_mem_append.mpr ⟨?_, List.forall_mem_singleton.mpr rfl⟩
  cases left <;> cases entered <;> simp [modeTasks, Task.opens]

theorem view_park (s : State) (b : Bay) : (s.setLane b (s.lane b).park).view = s.view := by
  rw [view_setLane]
  exact Function.update_eq_self b s.view

theorem view_parkLanes (s : State) : s.parkLanes.view = s.view := by
  have hfold : ∀ (bs : List Bay) (t : State), (bs.foldl (fun t b => t.setLane b (t.lane b).park) t).view = t.view := by
    intro bs
    induction bs with
    | nil => exact fun _ => rfl
    | cons b bs ih => exact fun t => (ih _).trans (view_park t b)
  exact hfold allBays s

theorem changeMode_bays {m : Mode} {cause : ModeCause} (hs : s.BaysSound) : (s.changeMode m cause).BaysSound := by
  have hset : ({ s with mode := m } : State).BaysSound := bays_of_view hs rfl
  unfold State.changeMode
  dsimp only
  split
  · exact settle_opens (bays_of_view hset (view_parkLanes _)) (modeTasks_opens _ _ _)
  · exact settle_opens hset (modeTasks_opens _ _ _)

/-- DORMANT entered with no visit left, every lane parked (R92, R177). -/
theorem changeMode_asleep {cause : ModeCause} (hs : s.BaysSound) (hv : ∀ b, s.visit b = none) : (s.changeMode .dormant cause).Asleep := by
  have hset : ({ s with mode := .dormant } : State).BaysSound := bays_of_view hs rfl
  have hview := view_parkLanes { s with mode := .dormant }
  have hparked : (({ s with mode := .dormant } : State).parkLanes).Asleep :=
    (bays_of_view hset hview).asleep (SameCauses.parkLanes _).mode (fun b => (congrArg (fun f => (f b).books.visit) hview).trans (hv b))
      fun b => by
        have hidle : (s.lane b).park.st = .idle := (hs b).idle_of_noVisit (hv b)
        rw [(parkLanes_bay _ b).1, lane_setLane]
        exact ordersOf_parked _ hidle rfl
  rw [changeMode_dormant]
  exact hparked.settle (modeTasks_opens _ _ _)

theorem changeMode_sound {m : Mode} {cause : ModeCause} (h : s.YardSound) (hv : m = .dormant → ∀ b, s.visit b = none) :
    (s.changeMode m cause).YardSound := by
  by_cases hm : m = .dormant
  · subst hm
    exact (changeMode_asleep h.bay (hv rfl)).sound (changeMode_bays h.bay)
  · exact yardSound_awake (changeMode_bays h.bay) (by rwa [mode_changeMode])

/-- SET_MODE enters DORMANT from another mode with no visit left alone (R176). -/
theorem noVisit_of_modeFor {asked : Mode} (h : s.modeFor asked = some .dormant) (hm : s.mode ≠ .dormant) : ∀ b, s.visit b = none := by
  rw [← noVisit_iff]
  unfold State.modeFor at h
  split at h <;> simp_all

theorem answerSetMode_sound (x : Byte) (h : s.YardSound) : (answerSetMode x s).1.YardSound := by
  unfold answerSetMode
  dsimp only
  split
  · exact h
  · split
    · exact h
    next m hm =>
      split
      · exact h
      next hne => exact changeMode_sound h fun hd => noVisit_of_modeFor (hd ▸ hm) fun he => hne (hd.trans he.symm)

/-! ## Marks and the stop line -/

/-- An event on a field that no bay's soundness reads. -/
theorem State.YardSound.of_view (h : s.YardSound) (hv : t.view = s.view) (hm : t.mode = s.mode) (hl : t.lanes = s.lanes)
    (hu : t.utils = s.utils) (hc : t.certs = s.certs) : t.YardSound := by
  refine (State.Keeps.of_view hv hm (fun b => ?_) (fun u => ?_) (hc ▸ rfl)).sound h
  · exact congrArg (fun l : Vector Lane 6 => l[b].orders) hl
  · exact ⟨congrArg (fun x : Vector Util 7 => x[utilIx u].grants) hu, congrArg (fun x : Vector Util 7 => x[utilIx u].claims) hu⟩

theorem putMark_sound (m : Fin 32) (v : Bool) (h : s.YardSound) : (s.putMark m v).YardSound := by
  have h1 : ({ s with marks := s.marks.set m v } : State).YardSound := h.of_view rfl rfl rfl rfl rfl
  unfold State.putMark
  dsimp only
  split
  · refine ((State.Keeps.refl _).settle (List.forall_mem_singleton.mpr ?_)).sound h1
    cases v <;> rfl
  · split
    · exact changeMode_sound h1 Mode.noConfusion
    · exact h1

theorem answerMark_sound (o m : Byte) (h : s.YardSound) : (answerMark o m s).1.YardSound := by
  unfold answerMark
  dsimp only
  split
  · dsimp only
    split
    · exact h
    · exact putMark_sound _ _ h
  · exact h

theorem stopRise_sound (h : s.YardSound) : s.stopRise.YardSound := by
  have h1 : ({ s with stopLevel := true } : State).YardSound := h.of_view rfl rfl rfl rfl rfl
  unfold State.stopRise
  dsimp only
  split
  · exact changeMode_sound h1 Mode.noConfusion
  · exact h1

/-! ## RESTART and the reset line -/

theorem restarted_sound (s : State) : s.restarted.YardSound := by
  refine emptyYard_sound _ (fun b => ?_) rfl (fun b => ?_) (fun _ b => ?_) rfl (fun u => ?_) (fun b => ?_) (fun b => ?_)
  · simp [State.visit, State.restarted]
  · simp [lane_restarted, Lane.reset]
  · simp [lane_restarted, Lane.reset]
  · simp [util_restarted]
  · simp [State.restarted]
  · simp [State.scan, State.restarted]

theorem answerRestart_sound (s : State) : (answerRestart s).1.YardSound := by
  rw [answerRestart_eq]
  exact (restarted_sound s).of_view rfl rfl rfl rfl rfl

theorem resetAssert_sound (s : State) : s.resetAssert.YardSound := by
  obtain ⟨-, -, -, -, -, -, -, -, -, -, hreset⟩ := resetMeetsTheInvariants
  exact hreset.of_view rfl rfl rfl rfl rfl

theorem released_sound (s : State) (straps : Fin 8) : (s.released straps).YardSound := by
  refine emptyYard_sound _ (fun b => ?_) rfl (fun b => ?_) (fun _ b => ?_) rfl (fun u => ?_) (fun b => ?_) (fun b => ?_)
  · simp [State.visit, State.released, State.reset]
  · simp [State.lane, State.released, State.reset, Lane.reset]
  · simp [State.lane, State.released, State.reset, Lane.reset]
  · simp [State.util, State.released, Util.reset]
  · simp [State.released, State.reset, StepStore.reset]
  · simp [State.scan, State.released, State.reset]

/-! ## The step store -/

/-- A run of descriptors leaves the pins and every entry pinned (R46). -/
theorem writeAll_pinned (ds : List Descriptor) (t : StepStore) :
    (t.writeAll ds).1.pins = t.pins ∧ ∀ i, t.pinned i = true → (t.writeAll ds).1.entries[i] = t.entries[i] := by
  induction ds generalizing t with
  | nil => exact ⟨rfl, fun _ _ => rfl⟩
  | cons d ds ih =>
    obtain ⟨u, -, -, -, hpins, hskips, hwrites⟩ := writeAll_cons t d ds
    obtain ⟨kpins, kentries⟩ := ih u
    have hpinned : ∀ i, u.pinned i = t.pinned i := fun i => by rw [StepStore.pinned, hpins]; rfl
    cases hp : t.pinned t.pointer with
    | true =>
      obtain ⟨he, hw⟩ := hskips hp
      rw [hw]
      exact ⟨kpins.trans hpins, fun i hi => (kentries i ((hpinned i).trans hi)).trans (by rw [he])⟩
    | false =>
      obtain ⟨he, hw⟩ := hwrites hp
      rw [hw]
      refine ⟨kpins.trans hpins, fun i hi => (kentries i ((hpinned i).trans hi)).trans ?_⟩
      have hne : t.pointer.val ≠ i.val := fun h => by
        rw [Fin.ext h, hi] at hp
        cases hp
      rw [he]
      exact Vector.getElem_set_ne _ _ hne

/-- A lane's work reads its current entry only while it has it pinned. -/
theorem Post.Works.with_step {p : Post} {sv : Option (Nat × Service)} {h : Held} (hw : p.Works sv h) {d : Descriptor}
    (hd : p.pin = some p.index → d = p.step) : ({ p with step := d } : Post).Works sv h := by
  by_cases hp : p.pin = some p.index
  · rw [hd hp]
    exact hw
  · have hno : ¬ p.Steps := fun hs => hp hs.1
    have hscan : ¬ p.Scans := fun hs => hp hs.1
    unfold Works at *
    dsimp only
    cases hst : p.st with
    | idle | seating | draining | starved | filling =>
      rw [hst] at hw
      exact hw
    | running =>
      rw [hst] at hw
      exact absurd hw.2.1 hno
    | scanning =>
      rw [hst] at hw
      exact absurd hw.2.1 hscan
    | waitResource | suspended =>
      rw [hst] at hw
      obtain ⟨hfree, k, w, u, hsv, hh, hwait⟩ := hw
      cases w with
      | wash => exact absurd hwait.1 hno
      | fill => exact ⟨hfree, k, .fill, u, hsv, hh, hwait⟩
    | held =>
      rw [hst] at hw
      obtain ⟨hholds, hh, k, w, r, hsv, hret, hreturns⟩ := hw
      refine ⟨hholds, hh, k, w, r, hsv, hret, ?_⟩
      cases w with
      | wash =>
        cases r with
        | waitResource | running | suspended => exact absurd hreturns hno
        | scanning => exact absurd hreturns hscan
        | idle | seating | draining | starved | filling | held => exact hreturns
      | fill => cases r <;> exact hreturns

/-- A step store with the pins and the pinned entries kept. -/
theorem setStore_sound {x : StepStore} (h : s.YardSound) (hp : x.pins = s.store.pins)
    (he : ∀ i, s.store.pinned i = true → x.entries[i] = s.store.entries[i]) : ({ s with store := x } : State).YardSound := by
  refine State.Keeps.sound (s := s) ⟨fun hs b => ?_, rfl, fun ha => ⟨ha.mode, ha.visits, ha.lanes, ha.utils, ha.withheld⟩⟩ h
  obtain ⟨sv, hd, hserves, hw⟩ := hs b
  have hview : ({ s with store := x } : State).view b =
      { s.view b with post := { (s.view b).post with step := x.entries[(s.lane b).index] } } := by
    simp only [State.view, State.post, hp]
    rfl
  rw [hview]
  refine ⟨sv, hd, ⟨hserves.holdings, hserves.serves, hserves.kept⟩, hw.with_step fun hpin => he _ ?_⟩
  exact (pinned_iff ..).mpr ⟨b, hpin⟩

theorem answerStepWrite_sound (rs : List RawStep) (h : s.YardSound) : (answerStepWrite rs s).1.YardSound := by
  unfold answerStepWrite
  split
  · exact h
  · split
    · exact h
    next ds _ =>
      obtain ⟨hp, he⟩ := writeAll_pinned ds s.store
      exact setStore_sound h hp he

end

end Sys2Proof.Machine
end

section
/-! PROOFS. Every request's owner, every event and every step keep the yard sound (R2, R63, R65, R116). -/

namespace Sys2Proof.Machine

/-! ## Requests -/

section
variable {s t : State}

/-- A request taken in RUN or STOPPED alone. -/
theorem State.YardSound.awake (h : s.YardSound) (hm : s.mode ≠ .dormant) (hc : SameCauses s t) (ht : s.BaysSound → t.BaysSound) :
    t.YardSound := (State.Keeps.awake hm hc.mode ht).sound h

/-- The certificate unit written with its withheld list unchanged. -/
theorem setCerts_sound {u : CertUnit} (h : s.YardSound) (hu : u.withheld = s.certs.withheld) : (s.setCerts u).YardSound :=
  (setCerts_keeps s hu).sound h

theorem answerAdmit_sound (b : Byte) (f : BitVec 24) (p : Byte) (ps : List Byte) (h : s.YardSound) : (answerAdmit b f p ps s).1.YardSound := by
  unfold answerAdmit
  dsimp only
  split
  · exact h
  next hm =>
    split
    next d urgent qs _ _ hqs =>
      split
      · exact h
      next hrange =>
        split
        · exact h
        next hv =>
          split
          · exact h
          · split
            · exact h
            · have hlen := all?_length hqs
              exact h.awake hm (((SameCauses.refl s).setVisit _ _).setRecords _) fun hs =>
                admitVisit_bays hs (by simpa using hv) (by omega)
    · exact h

theorem answerDepart_sound (b : Byte) (h : s.YardSound) : (answerDepart b s).1.YardSound := by
  unfold answerDepart
  dsimp only
  split
  · exact h
  next hm =>
    split
    · exact h
    · split
      · exact h
      · split
        next hr =>
          exact h.awake hm (((SameCauses.refl s).setLane _ _ (by rfl)).freeVisit _) fun hs =>
            depart_bays hs ((all_mayDepart_iff ..).mp hr)
        · exact h

theorem answerBayClear_sound (b : Byte) (h : s.YardSound) : (answerBayClear b s).1.YardSound := by
  unfold answerBayClear
  split
  · exact h
  next hm =>
    split
    · exact h
    · dsimp only
      split
      · exact h
      · exact h.awake hm ((SameCauses.refl s).clearBay _) fun hs => clearBay_bays hs _

theorem answerAssign_sound (b i x m l c : Byte) (h : s.YardSound) : (answerAssign b i x m l c s).1.YardSound := by
  unfold answerAssign
  split
  · exact h
  next hm =>
    split
    · split
      · exact h
      next r hr =>
        split
        next hst =>
          exact h.awake hm (((((SameCauses.refl s).modRecord _ _ _).appendEntry _ _).settle _ (SameCauses.afterIssue _ _))) fun hs =>
            assign_bays hs (findRecord_ok hr) hst
        · exact h
    · exact h

theorem answerExtend_sound (b i n : Byte) (h : s.YardSound) : (answerExtend b i n s).1.YardSound := by
  unfold answerExtend
  dsimp only
  split
  · exact h
  next hm =>
    split
    · split
      · exact h
      · split
        · exact h
        · exact h.awake hm ((SameCauses.refl s).extend _ _ _) fun hs => extend_bays hs _
    · exact h

theorem answerAbort_sound (b : Byte) (h : s.YardSound) : (answerAbort b s).1.YardSound := by
  unfold answerAbort
  split
  · exact h
  · split
    · exact h
    · split
      next hst => exact (abort_keeps hst.1 fun _ => hst.2).sound h
      · exact h

theorem answerHold_sound (b : Byte) (h : s.YardSound) : (answerHold b s).1.YardSound := by
  unfold answerHold
  dsimp only
  split
  · exact h
  · split
    · exact h
    · exact ((State.Keeps.refl s).settle (List.forall_mem_singleton.mpr rfl)).sound h

theorem answerResume_sound (b : Byte) (h : s.YardSound) : (answerResume b s).1.YardSound := by
  unfold answerResume
  dsimp only
  split
  · exact h
  · split
    · exact h
    · exact ((State.Keeps.refl s).settle (List.forall_mem_singleton.mpr rfl)).sound h

theorem judgeOrder_bays {b : Bay} {r : Comp} {o : FillOrder} (hs : s.BaysSound) (hr : s.record? b r.index = some r)
    (hst : r.st.mayOrder = true) : (s.judgeOrder b r o).1.BaysSound := by
  unfold State.judgeOrder
  split
  · exact hs
  · split
    · exact hs
    · split
      · exact hs
      · exact orderFill_bays hs hr hst

theorem answerOrderFill_sound (b i c : Byte) (n : BitVec 16) (h : s.YardSound) : (answerOrderFill b i c n s).1.YardSound := by
  unfold answerOrderFill
  split
  · exact h
  next hm =>
    split
    · split
      · exact h
      · split
        · exact h
        next r hr =>
          split
          next hst =>
            have hrec := findRecord_ok hr
            obtain ⟨-, rfl⟩ := record?_names hrec
            exact h.awake hm ((SameCauses.refl s).judgeOrder _ _ _) fun hs => judgeOrder_bays hs hrec hst
          · exact h
    · exact h

theorem answerCancelFill_sound (b i : Byte) (h : s.YardSound) : (answerCancelFill b i s).1.YardSound := by
  have h0 := SameCauses.refl s
  unfold answerCancelFill
  split
  · exact h
  next hm =>
    split
    · split
      · exact h
      next r hr =>
        have hrec := findRecord_ok hr
        split
        · exact h
        · split
          next hst => exact h.awake hm (h0.dropFill _ _) fun hs => dropFill_bays hs hrec hst
          next hc =>
            split
            next hst => exact h.awake hm (h0.settle _ (by rfl)) fun hs => endFill_bays hs hrec hst _
            next hf => exact h.awake hm (h0.modRecord _ _ _) fun hs => dropOrder_bays hs hrec hc hf
    · exact h

theorem answerRuleReferral_sound (b i x c : Byte) (h : s.YardSound) : (answerRuleReferral b i x c s).1.YardSound := by
  have h0 := SameCauses.refl s
  unfold answerRuleReferral
  split
  · exact h
  next hm =>
    split
    · split
      · exact h
      next r hr =>
        split
        next hst =>
          dsimp only
          split
          · exact h.awake hm ((h0.modRecord _ _ _).settle _ (by rfl)) fun hs => acceptReferral_bays hs (findRecord_ok hr) hst
          · exact h.awake hm (h0.modRecord _ _ _) fun hs => rejectReferral_bays hs (findRecord_ok hr) hst
        · exact h
    · exact h

theorem retire_keeps (s : State) (k : Nat) : s.Keeps (s.retire k) :=
  (setCerts_keeps (u := { s.certs with log := s.certs.log.drop k }) s rfl).trans (judgeBacklog_keeps _)

theorem answerCertRetire_sound (k : Byte) (h : s.YardSound) : (answerCertRetire k s).1.YardSound := by
  unfold answerCertRetire
  dsimp only
  split
  · exact h
  · split
    · exact h
    · split
      · exact (retire_keeps s _).sound h
      · exact ((retire_keeps s _).settle (List.forall_mem_singleton.mpr rfl)).sound h

theorem answerAuditRelease_sound (h : s.YardSound) : (answerAuditRelease s).1.YardSound := by
  unfold answerAuditRelease
  dsimp only
  split
  · exact h
  · split
    · exact h
    · have hopens : ∀ x ∈ Task.drain :: allBays.map Task.idle, x.opens = true := by simp [Task.opens]
      exact ((State.Keeps.refl _).settle hopens).sound (setCerts_sound h rfl)

theorem answerSetUtility_sound (u c o g : Byte) (h : s.YardSound) : (answerSetUtility u c o g s).1.YardSound := by
  unfold answerSetUtility
  dsimp only
  repeat' (first | exact h | exact (setUtility_keeps s _ _ _ _).sound h | split)

/-- Every request's owner keeps the yard sound. -/
theorem answer_sound (r : Request) (h : s.YardSound) : (answer r s).1.YardSound := by
  have same : ∀ {t : State}, t.view = s.view → t.mode = s.mode → t.lanes = s.lanes → t.utils = s.utils → t.certs = s.certs → t.YardSound :=
    h.of_view
  cases r <;> simp only [answer]
  case setMode m => exact answerSetMode_sound m h
  case restart => exact answerRestart_sound s
  case linkSetup o v m =>
    unfold answerLinkSetup
    dsimp only
    repeat' (first | exact h | exact (setNotices_keeps s _).sound h | split)
  case setClock c => exact setCerts_sound h rfl
  case setTiming => unfold answerSetTiming; split; exacts [h, same rfl rfl rfl rfl rfl]
  case setAudit p x =>
    unfold answerSetAudit
    split
    · exact (judgeBacklog_keeps _).sound (setCerts_sound h rfl)
    · exact h
  case setCertBase n =>
    unfold answerSetCertBase
    repeat' (first | exact h | exact setCerts_sound h rfl | split)
  case mark o m => exact answerMark_sound o m h
  case loadCarryover r es => unfold answerLoadCarryover; split; exacts [same rfl rfl rfl rfl rfl, h]
  case readCarryover r => unfold answerReadCarryover; split <;> exact h
  case loadVerdict f os =>
    unfold answerLoadVerdict
    repeat' (first | exact h | exact same rfl rfl rfl rfl rfl | split)
  case readVerdict f n => unfold answerReadVerdict; split <;> exact h
  case stepWindow f l => unfold answerStepWindow; split; exacts [setStore_sound h rfl fun _ _ => rfl, h]
  case stepWrite ss => exact answerStepWrite_sound ss h
  case stepRead i n => unfold answerStepRead; split <;> exact h
  case setUtility u c o g => exact answerSetUtility_sound u c o g h
  case admitVisit b f p ps => exact answerAdmit_sound b f p ps h
  case depart b => exact answerDepart_sound b h
  case bayClear b => exact answerBayClear_sound b h
  case assign b i x m l c => exact answerAssign_sound b i x m l c h
  case extend b i n => exact answerExtend_sound b i n h
  case abort b => exact answerAbort_sound b h
  case hold b => exact answerHold_sound b h
  case resume b => exact answerResume_sound b h
  case orderFill b i c n => exact answerOrderFill_sound b i c n h
  case cancelFill b i => exact answerCancelFill_sound b i h
  case ruleReferral b i x c => exact answerRuleReferral_sound b i x c h
  case certRead n => unfold answerCertRead; split <;> exact h
  case certRetire k => exact answerCertRetire_sound k h
  case auditRelease => exact answerAuditRelease_sound h
  case bayStatus b => unfold answerBayStatus; split <;> exact h
  case compartmentStatus b i =>
    unfold answerCompartmentStatus
    repeat' (first | exact h | split)
  case mapRead =>
    unfold answerMapRead
    dsimp only
    repeat' (first | exact h | split)
  case pendingRead sc => unfold answerPendingRead; split <;> exact h
  case pendingClear sc ks =>
    unfold answerPendingClear
    dsimp only
    repeat' (first | exact h | exact (setNotices_keeps s _).sound h | split)
  all_goals exact h

end

end Sys2Proof.Machine
end

section
/-! PROOFS. Every event and every step keep the yard sound, and a lane locked out or stopped holds nothing and moves nothing (R87, R92, R116). -/

namespace Sys2Proof.Machine

/-! ## Whole events -/

/-- An event keeps the yard sound. -/
def KeepsYard (s t : State) : Prop := s.YardSound → t.YardSound

namespace KeepsYard

variable {s t u : State}

theorem trans (h : KeepsYard s t) (k : KeepsYard t u) : KeepsYard s u := k ∘ h

theorem of_keeps (h : s.Keeps t) : KeepsYard s t := h.sound

/-- An event on fields that no bay's soundness reads. -/
theorem of_view (hv : t.view = s.view) (hm : t.mode = s.mode) (hl : t.lanes = s.lanes) (hu : t.utils = s.utils)
    (hc : t.certs = s.certs) : KeepsYard s t := fun h => h.of_view hv hm hl hu hc

theorem setLink (h : KeepsYard s t) (l : LinkId) (x : Link) : KeepsYard s (t.setLink l x) := h.trans (of_keeps (setLink_keeps t l x))

theorem serve (s : State) (l : LinkId) (kind : Byte) (x : Reading) : KeepsYard s (s.serve l kind x).1 := by
  unfold State.serve
  split
  · exact id
  · exact id
  · split
    · exact answer_sound _
    · exact id

theorem takeFrame (h : KeepsYard s t) (l : LinkId) (kind tag : Byte) (x : Reading) : KeepsYard s (t.takeFrame l kind tag x) :=
  (h.trans (serve t l kind x)).setLink l _

theorem arrive (h : KeepsYard s t) (l : LinkId) (f : Frame) (x : Reading) : KeepsYard s (t.arrive l f x) := by
  unfold State.arrive
  dsimp only
  split
  · exact h.setLink l _
  · split
    · exact h.setLink l _
    · exact h.takeFrame l _ _ _

theorem linkByte (h : KeepsYard s t) (l : LinkId) (b : Byte) : KeepsYard s (t.linkByte l b) := by
  unfold State.linkByte State.judgeFrame
  dsimp only
  repeat' (first | exact h | exact h.setLink l _ | exact (h.setLink l _).setLink l _ | exact (h.setLink l _).arrive l _ _ | split)

theorem linkGap (h : KeepsYard s t) (l : LinkId) : KeepsYard s (t.linkGap l) := by
  unfold State.linkGap
  dsimp only
  repeat' (first | exact h | exact h.setLink l _ | split)

theorem frameError (h : KeepsYard s t) (l : LinkId) (e : FrameError) : KeepsYard s (t.frameError l e) := by
  unfold State.frameError
  dsimp only
  repeat' (first | exact h | exact h.setLink l _ | split)

theorem frameSent (h : KeepsYard s t) (l : LinkId) : KeepsYard s (t.frameSent l) := by
  unfold State.frameSent
  dsimp only
  repeat' (first | exact h.setLink l _ | exact (h.setLink l _).takeFrame l _ _ _ | split)

theorem live {f : State → State} (h : KeepsYard s t) (hf : KeepsYard t (f t)) : KeepsYard s (t.live f) := by
  unfold State.live
  split
  · exact h
  · exact (h.trans hf).trans (of_keeps (choose_keeps _))

end KeepsYard

/-- A lane's judgement of the entry at its queue's head (R67 to R69). -/
theorem idleRow_keeps (s : State) (b : Bay) (w : Service) : s.Keeps (if s.headKind b = some w then s.settle [.idle b] else s) := by
  split
  · exact (State.Keeps.refl s).settle (List.forall_mem_singleton.mpr rfl)
  · exact .refl s

/-- Every row of the table keeps the yard sound. -/
theorem exec_sound (c : Instr) (s : State) : ∃ t, exec c s = .next t ∧ KeepsYard s t := by
  have h0 : KeepsYard s s := id
  have plant : ∀ {f : State → State}, s.Keeps (f s) → KeepsYard s (s.live f) := fun h => h0.live h.sound
  cases hr : asRequest c with
  | some q =>
    obtain ⟨l, tag, r⟩ := q
    exact ⟨_, exec_asRequest hr s, h0.live (h0.arrive l _ _)⟩
  | none =>
    cases c <;> simp only [asRequest, reduceCtorEq] at hr
    case unknownKind l tag kind body => exact ⟨_, rfl, h0.live (h0.arrive l _ _)⟩
    case reject l e => exact ⟨_, rfl, h0.live (h0.frameError l e)⟩
    case gap l => exact ⟨_, rfl, h0.live (h0.linkGap l)⟩
    case frameSent l => exact ⟨_, rfl, h0.live (h0.frameSent l)⟩
    case bayReport b flow fill temp => exact ⟨_, rfl, plant (takeMessage?_keeps s b _)⟩
    case seated b x => exact ⟨_, rfl, plant (takeMessage?_keeps s b _)⟩
    case lifted b => exact ⟨_, rfl, plant (takeMessage_keeps s b _)⟩
    case drainClear b => exact ⟨_, rfl, plant (takeMessage_keeps s b _)⟩
    case highLevel b => exact ⟨_, rfl, plant (takeMessage_keeps s b _)⟩
    case probe b x => exact ⟨_, rfl, plant (takeMessage?_keeps s b _)⟩
    case bayPortTimeout b => exact ⟨_, rfl, plant (setPartway_keeps s b none)⟩
    case bayOrdersSent b => exact ⟨_, rfl, plant (ordersSent_keeps s b)⟩
    case stopLineRise =>
      have hp : KeepsYard s (s.stopPin true) := .of_view rfl rfl rfl rfl rfl
      exact ⟨_, rfl, hp.live stopRise_sound⟩
    case stopLineFall =>
      have hp : KeepsYard s (s.stopPin false) := .of_view rfl rfl rfl rfl rfl
      exact ⟨_, rfl, hp.live (.of_view rfl rfl rfl rfl rfl)⟩
    case faultLineRise u =>
      have hp : KeepsYard s (s.faultPin u true) := .of_view rfl rfl rfl rfl rfl
      exact ⟨_, rfl, hp.live (putFault_keeps _ u true).sound⟩
    case faultLineFall u =>
      have hp : KeepsYard s (s.faultPin u false) := .of_view rfl rfl rfl rfl rfl
      exact ⟨_, rfl, hp.live (putFault_keeps _ u false).sound⟩
    case minuteTick => exact ⟨_, rfl, plant (setCerts_keeps s rfl)⟩
    case resetLineAssert => exact ⟨_, rfl, fun _ => resetAssert_sound s⟩
    case resetLineRelease straps =>
      refine ⟨_, rfl, ?_⟩
      unfold State.resetRelease
      split
      · exact fun _ => released_sound s straps
      · exact h0
    case takeWashEntry b => exact ⟨_, rfl, plant (idleRow_keeps s b .wash)⟩
    case takeFillEntry b => exact ⟨_, rfl, plant (idleRow_keeps s b .fill)⟩
    case utilityGrant u => exact ⟨_, rfl, plant ((State.Keeps.refl s).settle (List.forall_mem_singleton.mpr rfl))⟩
    case frameByteReceived l x => exact ⟨_, rfl, h0.live (h0.linkByte l x)⟩
    case portByteReceived b x => exact ⟨_, rfl, plant (portByte_keeps s b x)⟩
    all_goals exact ⟨_, rfl, plant (reportRow_keeps s _ _ _ _ _)⟩

/-- Every step keeps the yard sound. -/
theorem step_sound {s t : State} (h : step s = .next t) : KeepsYard s t := by
  unfold step at h
  split at h
  · obtain rfl : s = t := by simpa using h
    exact id
  · next c rest _ =>
    have hp : KeepsYard s { s with pending := rest } := .of_view rfl rfl rfl rfl rfl
    obtain ⟨t', ht', k⟩ := exec_sound c { s with pending := rest }
    obtain rfl : t' = t := by simpa [ht'] using h
    exact hp.trans k

/-! ## A lane locked out or stopped -/

section
variable {s : State} {b : Bay}

/-- A lane with a hold cause is IDLE or HELD and holds nothing at the utilities (R87, R116). -/
theorem State.YardSound.caused (h : s.YardSound) (hc : (s.lane b).holds ≠ Holds.none) :
    ((s.lane b).st = .idle ∨ (s.lane b).st = .held) ∧ ∀ u : UtilId, ∀ c ∈ (s.util u).grants ++ (s.util u).claims, c.lane ≠ b := by
  obtain ⟨sv, hd, hserves, hw⟩ := h.bay b
  have hst : (s.lane b).st = .idle ∨ (s.lane b).st = .held := (hw.clauses hserves.serves).holding hc
  have hnothing : hd = .nothing := by
    rcases hst with hst | hst
    · unfold Post.Works at hw
      rw [show (s.view b).post.st = .idle from hst] at hw
      exact hw.2.2.2
    · exact (hw.held hst).1
  subst hnothing
  exact ⟨hst, fun u => (countsOf_eq_zero_iff (s.util u) b).mp (congrFun hserves.holdings u)⟩

/-- A lane locked out, and every lane of a STOPPED yard, has a hold cause (R175, R179). -/
theorem State.CausesFollow.caused (h : s.CausesFollow) (hc : s.marks[b.val + 1]'(by omega) = true ∨ s.mode = .stopped) :
    (s.lane b).holds ≠ Holds.none := by
  obtain ⟨hstop, hlock⟩ := h b
  intro hn
  rw [hn] at hstop hlock
  rcases hc with hc | hc
  · rw [hc] at hlock
    cases hlock
  · rw [hc] at hstop
    cases hstop

end

/-- Settles O59: the yard is sound exactly when each bay's books, post and holdings agree, and every event leaves them so. -/
theorem everyStepKeepsTheYardSound : Obligations.EveryStepKeepsTheYardSound := by
  refine ⟨fun s t h hstep => step_sound hstep h, fun b s h hcauses horders hc => ?_⟩
  obtain ⟨hst, hnothing⟩ := h.caused (hcauses.caused hc)
  obtain ⟨hfill, hprobe, hsupply⟩ := horders b
  have hno : ∀ x : LaneState, x ≠ .idle → x ≠ .held → (s.lane b).st ≠ x := fun x hi hh hx => by
    rcases hst with hst | hst
    · exact hi (hx.symm.trans hst)
    · exact hh (hx.symm.trans hst)
  refine ⟨hst, hnothing, Option.not_isSome_iff_eq_none.mp fun hs => hno .running (by decide) (by decide) (hsupply hs), ?_, ?_⟩
  · rw [hfill, decide_eq_false (hno .filling (by decide) (by decide))]
  · rw [hprobe, decide_eq_false (hno .scanning (by decide) (by decide))]

end Sys2Proof.Machine
end
